-- ==== Sys2Proof/Word.lean ====
section
/-! DEFINITION. The two word sizes of the block: a byte of a stream or buffer, and a 32-bit register or
float pattern (00_scope R9, R10). A float pattern is never interpreted, so it is a plain word (40_codec R112). -/

namespace Sys2Proof

/-- One byte, bits numbered from 0 at the least significant (R9). -/
abbrev Byte := BitVec 8

/-- A 32-bit register or an `f32` pattern (R10). -/
abbrev Word := BitVec 32

/-- `PZERO`, the pattern of the float +0.0 (R10, R108). -/
abbrev pzero : Word := 0

end Sys2Proof
end

