-- ==== Sys2Proof/Config.lean ====
section
/-! DEFINITION. The block's parameters (00_scope R8, 10_state R36, R37), the choices the transport makes
(20_memory R51 to R53), and the two free values of the model. -/

namespace Sys2Proof

/-- A registry entry's direction (R37). -/
inductive Direction where
  | read
  | write
  | readWrite
  deriving DecidableEq, Repr

/-- The payload shape a registry entry may carry, as the pair SELEN, NV (R37, R84, conflict C5). -/
structure Shape where
  selen : Bool
  nv : BitVec 4
  deriving DecidableEq, Repr

/-- One entry of the Command Registry (R37). -/
structure RegistryEntry where
  opcode : Byte
  direction : Direction
  replyArity : BitVec 4
  shape : Option Shape
  deriving DecidableEq, Repr

/-- The parameters of R8. A state carries them in its field `cfg`, which no step writes, so that a
statement about every state holds for every value of every parameter (log 1). -/
structure Config where
  /-- `START_BYTE`, byte 0 of every frame (R36). -/
  startByte : Byte
  /-- `MAX_VALUES`, 0..63 (R8). -/
  maxValues : Fin 64
  /-- `REGISTRY`, read by the host only (R37). -/
  registry : List RegistryEntry
  deriving DecidableEq, Repr

/-- The defaults of R8: `0xBB`, 9, and no registry, whose contents the source does not give (N1; log 24). -/
def Config.standard : Config := { startByte := 0xBB, maxValues := 9, registry := [] }

/-- `RX_MAX` = 4 times `MAX_VALUES` (R8). -/
def Config.rxMax (c : Config) : Nat := 4 * c.maxValues.val

/-- `MAX_PAYLOAD` (R8). -/
def maxPayload : Nat := 255

/-- `MAX_FRAME` (R8). -/
def maxFrame : Nat := 259

/-- `ARITY_SET`: the reply arities registry entries take (R8, R37). -/
def aritySet : List Nat := [0, 1, 3, 4, 6, 8, 9]

/-- Opcodes unique per entry and each reply arity one of the legal values (R37). -/
def Config.registryOk (c : Config) : Bool :=
  decide (c.registry.map RegistryEntry.opcode).Nodup &&
    c.registry.all fun e => decide (e.replyArity.toNat ∈ aritySet)

/-- What the environment decides when the block asks a transport primitive. One draw serves each of the
three: whether it faults, how much of a frame is on the wire by then (R51), whether the fault drops the
connection (R51, R55), and how many bytes a read returns (R53). -/
structure Draw where
  fault : Bool
  sent : Nat
  drop : Bool
  got : Nat
  deriving DecidableEq, Repr, Inhabited

/-- FREE VALUE: the transport's answer when the state lists none (R51, R52, R53: "the model draws it"; log 4). -/
opaque Config.freeDraw : Nat → Draw

/-- FREE VALUE: what a host read returns where the spec says unspecified (R33, R42, R27; log 8). -/
opaque Config.freeWord : Nat → Word

end Sys2Proof
end

