-- ==== Sys2Proof/Machine/Codec.lean ====
section
/-! DEFINITION. The pure functions of the Frame Codec: byte order (00_scope R10), `cksum8` (40_codec R100),
`pack` (R101) and `frame` (R102). They interpret no pattern (R112). -/

namespace Sys2Proof

/-- `le32`: the four bytes of a pattern, least significant first (R10). -/
def le32 (w : Word) : List Byte :=
  [w.extractLsb' 0 8, w.extractLsb' 8 8, w.extractLsb' 16 8, w.extractLsb' 24 8]

/-- `from_le32` on four bytes (R10). -/
def fromLe32 (b0 b1 b2 b3 : Byte) : Word :=
  BitVec.ofNat 32 (b0.toNat + 256 * b1.toNat + 65536 * b2.toNat + 16777216 * b3.toNat)

/-- The values of a byte sequence, four bytes each, in order (R87, R116); a tail of fewer than four
bytes is no value. -/
def wordsOf : List Byte → List Word
  | b0 :: b1 :: b2 :: b3 :: rest => fromLe32 b0 b1 b2 b3 :: wordsOf rest
  | _ => []

/-- `sum(s)`: the bytes' sum as a natural number, no wrap (R9). -/
def byteSum : List Byte → Nat
  | [] => 0
  | b :: bs => b.toNat + byteSum bs

/-- `cksum8(s) = sum(s) mod 256` (R100). -/
def cksum8 (s : List Byte) : Byte := BitVec.ofNat 8 (byteSum s)

/-- `pack(s, sel, values)`: the payload of a float command (R101). -/
def pack (selen : Bool) (sel : Byte) (values : List Word) : List Byte :=
  (if selen then [sel] else []) ++ values.flatMap le32

/-- A frame's bytes before its checksum: start byte, opcode, length, payload (R80). -/
def frameHead (c : Config) (opc : Byte) (payload : List Byte) : List Byte :=
  c.startByte :: opc :: BitVec.ofNat 8 payload.length :: payload

/-- `frame(opc, p)` (R102). Above 255 payload bytes it has no meaning and answers none: the length byte
never wraps (R104). -/
def buildFrame (c : Config) (opc : Byte) (payload : List Byte) : Option (List Byte) :=
  if payload.length ≤ maxPayload then
    some (frameHead c opc payload ++ [cksum8 (frameHead c opc payload)])
  else none

end Sys2Proof
end

