-- ==== Sys2Proof/Syntax.lean ====
section
/-! DEFINITION. The eleven rows of spec/opcode_table.json: nine on the command word (30_encoding R90, R91,
R93) and the two wire formats (R80, R87). -/

namespace Sys2Proof

/-- The fields of the command word besides OP and RSV (30_encoding R90). Every operation's word has all of
them; an operation ignores those it does not read (R92), and CMD holds them all (10_state R21). -/
structure CmdFields where
  /-- `SELEN`, bit 3: a selector byte leads the payload. -/
  selen : Bool
  /-- `NV`, bits 7:4: number of values to send. -/
  nv : BitVec 4
  /-- `OPC`, bits 15:8: the wire opcode. -/
  opc : Byte
  /-- `SEL`, bits 23:16: the selector byte. -/
  sel : Byte
  /-- `AR`, bits 27:24: number of values to decode. -/
  ar : BitVec 4
  deriving DecidableEq, Repr

/-- One constructor per row of the opcode table. -/
inductive Instr where
  /-- ENCODE: a frame from a wire opcode and raw payload bytes (R103). -/
  | encode (f : CmdFields)
  /-- ENCF: a frame from a wire opcode, an optional selector and values (R105). -/
  | encf (f : CmdFields)
  /-- DECF: values from raw bytes (R107). -/
  | decf (f : CmdFields)
  /-- CALL: write one request frame, read one reply (R120). -/
  | call (f : CmdFields)
  /-- XFER: encode, call, decode (R126). -/
  | xfer (f : CmdFields)
  /-- RESERVED_OP0: OP = 0b000 (R93). -/
  | reservedOp0 (f : CmdFields)
  /-- RESERVED_OP6: OP = 0b110 (R93). -/
  | reservedOp6 (f : CmdFields)
  /-- RESERVED_OP7: OP = 0b111 (R93). -/
  | reservedOp7 (f : CmdFields)
  /-- RESERVED_RSV: bits 31:28 not zero, whatever OP is (R93). -/
  | reservedRsv (rsv : BitVec 4) (op : BitVec 3) (f : CmdFields)
  /-- FRAME: a wire request, less its start byte and its length, which the payload has (R80). -/
  | frame (opc : Byte) (payload : List Byte) (checksum : Byte)
  /-- REPLY: the bytes of a reply, which carry nothing else (R87). -/
  | reply (bytes : List Byte)
  deriving DecidableEq, Repr

end Sys2Proof
end

