-- ==== Sys2Proof/WellFormed.lean ====
section
/-! DEFINITION. Which instructions are well formed: exactly those some encoding spells with every field in
its range. Counts above MAX_VALUES are well-formed words that the block refuses (30_encoding R93), so they
are no matter of this file. -/

namespace Sys2Proof

/-- RSV not zero for RESERVED_RSV (R93); a frame's payload at most 255 bytes and its checksum the `cksum8`
of the bytes before it (R86); a reply whole values, at most RX_MAX bytes (R87, R8). -/
def Instr.wellFormed (c : Config) : Instr → Bool
  | .encode _ => true
  | .encf _ => true
  | .decf _ => true
  | .call _ => true
  | .xfer _ => true
  | .reservedOp0 _ => true
  | .reservedOp6 _ => true
  | .reservedOp7 _ => true
  | .reservedRsv rsv _ _ => rsv != 0
  | .frame opc payload checksum =>
    decide (payload.length ≤ maxPayload) && checksum == cksum8 (frameHead c opc payload)
  | .reply bytes => bytes.length % 4 == 0 && decide (bytes.length ≤ c.rxMax)

end Sys2Proof
end

