-- ==== Sys2Proof/Decode.lean ====
section
/-! DEFINITION. The decoder, total on any bytes and refusing by name, and the encoder. The block has three
ports with an encoding each: the command word (30_encoding R90), the wire request (R80) and the wire reply
(R87); the port, never the bytes, says which applies. -/

namespace Sys2Proof

/-- The port a row of the opcode table belongs to (the table's "format"). -/
inductive Port where
  | command
  | request
  | reply
  deriving DecidableEq, Repr

/-- Why a decoder refuses a byte sequence. -/
inductive Reject where
  /-- A command word is four bytes (R90). -/
  | notOneWord
  /-- A frame has at least four bytes (R80). -/
  | frameTooShort
  /-- Byte 0 is not START_BYTE (R81). -/
  | badStartByte
  /-- Fewer bytes follow than the length field and the checksum ask for (R83). -/
  | frameCut
  /-- Bytes stand after the checksum (R80: "no other bytes before, between or after"). -/
  | trailingBytes
  deriving DecidableEq, Repr

/-- What a decoder answers. -/
inductive Decoded (α : Type) where
  | ok (a : α)
  | rejected (r : Reject)
  deriving DecidableEq, Repr

/-- The row of an operation select once RSV is known to be zero (R91, R93). -/
def ofOp (op : BitVec 3) (f : CmdFields) : Instr :=
  match op.toNat with
  | 0 => .reservedOp0 f
  | 1 => .encode f
  | 2 => .encf f
  | 3 => .decf f
  | 4 => .call f
  | 5 => .xfer f
  | 6 => .reservedOp6 f
  | _ => .reservedOp7 f

/-- The fields of a command word (R90). -/
def cmdFields (w : Word) : CmdFields :=
  { selen := w.getLsbD 3
    nv := w.extractLsb' 4 4
    opc := w.extractLsb' 8 8
    sel := w.extractLsb' 16 8
    ar := w.extractLsb' 24 4 }

/-- The command word's decoder: RSV is tested before OP (R93). -/
def decodeWord (w : Word) : Instr :=
  if w.extractLsb' 28 4 = 0 then ofOp (w.extractLsb' 0 3) (cmdFields w)
  else .reservedRsv (w.extractLsb' 28 4) (w.extractLsb' 0 3) (cmdFields w)

/-- One frame read from the front of a byte sequence, with what is left of it (R80). The checksum is a
field like the others: the bytes do not have to be a frame this block would build. -/
def decodeFrame (c : Config) : List Byte → Decoded (Instr × List Byte)
  | start :: opc :: len :: rest =>
    if start ≠ c.startByte then .rejected .badStartByte
    else match rest.drop len.toNat with
      | [] => .rejected .frameCut
      | checksum :: left => .ok (.frame opc (rest.take len.toNat) checksum, left)
  | _ => .rejected .frameTooShort

/-- The decoder of each port, total on any bytes. A reply has no fixed byte and no length of its own, so
any bytes are one (R89). -/
def decode (c : Config) (port : Port) (bytes : List Byte) : Decoded Instr :=
  match port with
  | .command =>
    match bytes with
    | [b0, b1, b2, b3] => .ok (decodeWord (fromLe32 b0 b1 b2 b3))
    | _ => .rejected .notOneWord
  | .request =>
    match decodeFrame c bytes with
    | .ok (i, []) => .ok i
    | .ok (_, _ :: _) => .rejected .trailingBytes
    | .rejected r => .rejected r
  | .reply => .ok (.reply bytes)

/-- A command word laid out from its fields, bit 31 first (R90). -/
def commandWord (rsv : BitVec 4) (op : BitVec 3) (f : CmdFields) : Word :=
  rsv ++ f.ar ++ f.sel ++ f.opc ++ f.nv ++ BitVec.ofBool f.selen ++ op

/-- The port an instruction is encoded for. -/
def Instr.port : Instr → Port
  | .encode _ => .command
  | .encf _ => .command
  | .decf _ => .command
  | .call _ => .command
  | .xfer _ => .command
  | .reservedOp0 _ => .command
  | .reservedOp6 _ => .command
  | .reservedOp7 _ => .command
  | .reservedRsv _ _ _ => .command
  | .frame _ _ _ => .request
  | .reply _ => .reply

/-- The encoder: a command word as its four bytes, least significant first (R57), a frame as its bytes in
offset order (R80), a reply as its bytes (R87). -/
def encode (c : Config) : Instr → List Byte
  | .encode f => le32 (commandWord 0 1 f)
  | .encf f => le32 (commandWord 0 2 f)
  | .decf f => le32 (commandWord 0 3 f)
  | .call f => le32 (commandWord 0 4 f)
  | .xfer f => le32 (commandWord 0 5 f)
  | .reservedOp0 f => le32 (commandWord 0 0 f)
  | .reservedOp6 f => le32 (commandWord 0 6 f)
  | .reservedOp7 f => le32 (commandWord 0 7 f)
  | .reservedRsv rsv op f => le32 (commandWord rsv op f)
  | .frame opc payload checksum => frameHead c opc payload ++ [checksum]
  | .reply bytes => bytes

/-- The bytes of a number, `n` of them, bits 7:0 first: how the opcode table numbers an instruction's bits. -/
def bytesOf : Nat → Nat → List Byte
  | 0, _ => []
  | n + 1, w => BitVec.ofNat 8 w :: bytesOf n (w / 256)

/-- The bytes of a table word at the wire request port: the row's own bits, then zeros up to the length the
third byte asks for (R80). -/
def tableFrameBytes (nbits w : Nat) : List Byte :=
  let padded := bytesOf maxFrame (w % 2 ^ nbits)
  padded.take (4 + (padded.getD 2 0).toNat)

/-- What this decoder reads from a row of the opcode table: 32 bits are a command word, any other width a
wire request under the default START_BYTE. -/
def decodeTableWord (nbits w : Nat) : Option Instr :=
  let answer :=
    if nbits = 32 then decode .standard .command (bytesOf 4 w)
    else decode .standard .request (tableFrameBytes nbits w)
  match answer with
  | .ok i => some i
  | .rejected _ => none

end Sys2Proof
end

