-- ==== Sys2Proof/Machine/State.lean ====
section
/-! DEFINITION. The state of the block, its environment and what is still to land on them (10_state R20 to
R42, R38), the state at the start of a run (R41), the block's reset (70_reset R170, R171), the reasons a
step stops, and the named updates through which every meaning writes. -/

namespace Sys2Proof.Machine

/-- `PHASE`, the sequencer (R35). -/
inductive Phase where
  | idle
  | tx
  | flush
  | rx
  deriving DecidableEq, Repr

/-- `PHASE` as its two bits (R35). -/
def Phase.code : Phase → BitVec 2
  | .idle => 0
  | .tx => 1
  | .flush => 2
  | .rx => 3

/-- `STATUS`: the five codes ever written (R30, R145; log 22). -/
inductive Status where
  | ok
  | shortRead
  | transportFault
  | lenMismatch
  | refused
  deriving DecidableEq, Repr

/-- `STATUS` as its three bits (R30). -/
def Status.code : Status → BitVec 3
  | .ok => 0
  | .shortRead => 1
  | .transportFault => 2
  | .lenMismatch => 3
  | .refused => 4

/-- A register of a file or buffer whose reset value is unspecified: its bits, and whether anything has
written it since reset (R42; log 2, log 3). -/
structure Slot (w : Nat) where
  bits : BitVec w
  written : Bool
  deriving DecidableEq, Repr

/-- A slot nothing has written since reset (log 2). -/
def Slot.blank {w : Nat} : Slot w := { bits := 0, written := false }

/-- A slot just written. -/
def Slot.put {w : Nat} (v : BitVec w) : Slot w := { bits := v, written := true }

/-- What `connect` is given (R135, R8); no rule reads it. DESIGN CHOICE: the address, the baud rate and T_READ are
numbers without bound and without unit, since the source gives none of their widths, units or resolutions (R157,
91_not_in_source N7; log 29). -/
structure Link where
  address : Nat
  baud : Nat
  tRead : Nat
  deriving DecidableEq, Repr

/-- A move of the host or the environment (70_reset R188, R38), or the block's turn (log 5). -/
inductive Input where
  /-- The block takes its next step. -/
  | run
  /-- The host writes a register (R32). -/
  | write (offset : Nat) (value : Word)
  /-- The host reads a register (R32). -/
  | read (offset : Nat)
  /-- The host connects the transport (R135). -/
  | connect (link : Link)
  /-- The host disconnects the transport (R135). -/
  | disconnect
  /-- The reset input (R170). -/
  | reset
  /-- The device's bytes reach the receive stream (R38). -/
  | arrive (bytes : List Byte)
  deriving DecidableEq, Repr

/-- Why a step faults. -/
inductive Fault where
  /-- Raised by the sequencer's TX step when `FRM[0..FLEN-1]` is no frame, which no operation leaves there
  (R86). Safe: no state that meets `State.wf` raises it (log 12). -/
  | frameCorrupt
  deriving DecidableEq, Repr

/-- Why a step is refused. -/
inductive Refusal where
  /-- Raised by an arm of `exec` whose instruction has no meaning yet. Safe. -/
  | notModelled (mnemonic : String)
  /-- Raised by whatever builds or sends a frame of more than 255 payload bytes (R104, R146). Safe: the
  spec asks for this refusal (log 11). -/
  | payloadTooLong
  /-- Raised by a host access at an offset the register map does not list (R32, U18). Safe: the spec asks
  for this refusal (log 9). -/
  | noSuchRegister (offset : Nat)
  /-- Raised by a host write to a register the map gives no write access, STAT, FLEN or FRM (R32). Safe:
  the spec gives such a write no effect (log 9). -/
  | readOnlyRegister (offset : Nat)
  /-- Raised by connect or disconnect while BUSY = 1, which the host must not do (R135, R188). Safe: such a
  run is outside the model (log 10). -/
  | linkMovedWhileBusy
  deriving DecidableEq, Repr

/-- The whole machine: the block (R20), its constants (R36, R37), the environment's state (R38) and what is
still to land (log 4, log 5). -/
structure State where
  /-- START_BYTE, MAX_VALUES, REGISTRY; no step writes it (R36, R37). -/
  cfg : Config
  /-- `CMD` (R21). -/
  cmd : Word
  /-- `PLEN` (R22). -/
  plen : Byte
  /-- `EXP` (R23). -/
  exp : Byte
  /-- `PAY[0..254]` (R24). -/
  pay : List (Slot 8)
  /-- `VAL[0..MAX_VALUES-1]` (R25). -/
  val : List (Slot 32)
  /-- `RBUF[0..RX_MAX-1]` (R26). -/
  rbuf : List (Slot 8)
  /-- `RLEN` (R26). -/
  rlen : Byte
  /-- `FRM[0..258]` (R27). -/
  frm : List Byte
  /-- `FLEN` (R27). -/
  flen : BitVec 9
  /-- `OK` (R28). -/
  ok : Bool
  /-- `BUSY` (R29). -/
  busy : Bool
  /-- `STATUS` (R30). -/
  status : Status
  /-- `PHASE` (R35). -/
  phase : Phase
  /-- `TXS`, every byte the block has written (R38). -/
  txs : List Byte
  /-- `RXQ`, bytes the device has sent and the block has not consumed (R38). -/
  rxq : List Byte
  /-- `CONN` (R38). -/
  conn : Bool
  /-- What the last `connect` was given, none before the first one (R135, R172; log 14). -/
  link : Option Link
  /-- The transport's answers to primitives not yet asked, oldest first (log 4). -/
  answers : List Draw
  /-- How many free values have been drawn (log 4, log 8). -/
  draws : Nat
  /-- Moves still to land, oldest first (log 5). -/
  inputs : List Input
  /-- What the host got back from its last register read (R188; log 21). -/
  rdata : Word
  deriving DecidableEq, Repr

/-- What a step answers. -/
abbrev Result := Host.Outcome State Fault Refusal

/-- `STAT`, a view and no state (R31). -/
def State.stat (s : State) : Word :=
  (0 : BitVec 25) ++ s.phase.code ++ s.status.code ++ BitVec.ofBool s.busy ++ BitVec.ofBool s.ok

/-- The start of a run under given parameters (R41): what the reset values of R41 say, TXS empty, CONN false.
VAL, PAY, RBUF and FRM are unspecified there (log 2), RXQ is the environment's (log 14). -/
def State.initial (c : Config) : State :=
  { cfg := c
    cmd := 0
    plen := 0
    exp := 0
    pay := List.replicate 255 .blank
    val := List.replicate c.maxValues.val .blank
    rbuf := List.replicate c.rxMax .blank
    rlen := 0
    frm := List.replicate maxFrame 0
    flen := 0
    ok := false
    busy := false
    status := .refused
    phase := .idle
    txs := []
    rxq := []
    conn := false
    link := none
    answers := []
    draws := 0
    inputs := []
    rdata := 0 }

/-- The machine right after its first reset, at the default parameters (R41, R8). -/
def State.reset : State := State.initial .standard

/-! The named updates. Each writes the fields that change together, and nothing else. -/

/-- `CMD <- w`. -/
def State.setCmd (s : State) (w : Word) : State := { s with cmd := w }

/-- `PLEN <- v`. -/
def State.setPlen (s : State) (v : Byte) : State := { s with plen := v }

/-- `EXP <- v`. -/
def State.setExp (s : State) (v : Byte) : State := { s with exp := v }

/-- The payload buffer. -/
def State.setPay (s : State) (p : List (Slot 8)) : State := { s with pay := p }

/-- The value registers. -/
def State.setVal (s : State) (v : List (Slot 32)) : State := { s with val := v }

/-- `RBUF` with `RLEN`. -/
def State.setReply (s : State) (r : List (Slot 8)) (n : Byte) : State := { s with rbuf := r, rlen := n }

/-- `FRM` with `FLEN`. -/
def State.setFrame (s : State) (f : List Byte) (n : BitVec 9) : State := { s with frm := f, flen := n }

/-- `STATUS`, and `OK` with it: `OK = 1` iff `STATUS = 0` (R28, R30). -/
def State.setStatus (s : State) (st : Status) : State := { s with ok := decide (st = .ok), status := st }

/-- `PHASE`, and `BUSY` with it: `PHASE = IDLE` iff `BUSY = 0` (R35). -/
def State.setPhase (s : State) (p : Phase) : State := { s with busy := decide (p ≠ .idle), phase := p }

/-- The transmit stream. -/
def State.setTxs (s : State) (t : List Byte) : State := { s with txs := t }

/-- The receive stream. -/
def State.setRxq (s : State) (r : List Byte) : State := { s with rxq := r }

/-- `CONN`. -/
def State.setConn (s : State) (b : Bool) : State := { s with conn := b }

/-- What `connect` fixes (R135). -/
def State.setLink (s : State) (l : Link) : State := { s with link := some l }

/-- The transport's answers still to come. -/
def State.setAnswers (s : State) (a : List Draw) : State := { s with answers := a }

/-- The free values' counter. -/
def State.setDraws (s : State) (n : Nat) : State := { s with draws := n }

/-- The moves still to land. -/
def State.setInputs (s : State) (i : List Input) : State := { s with inputs := i }

/-- The value the host got back. -/
def State.setRdata (s : State) (w : Word) : State := { s with rdata := w }

end Sys2Proof.Machine
end

