-- ==== Sys2Proof/Machine/Flags.lean ====
section
/-! DEFINITION. What an operation writes into the flags when it ends: `OK` with `STATUS` (10_state R28, R30,
60_exceptions R145), and `BUSY` with `PHASE` (R29, R35). -/

namespace Sys2Proof.Machine

/-- `OK <- 1 ; STATUS <- ST_OK`. -/
def succeed (s : State) : State := s.setStatus .ok

/-- The refusal of a command word: `OK <- 0`, `STATUS <- ST_REFUSED`, nothing else (R147). -/
def refuse (s : State) : State := s.setStatus .refused

/-- `BUSY <- 0 ; PHASE <- IDLE` with the code the operation ends with (R120, R150). -/
def complete (st : Status) (s : State) : State := (s.setStatus st).setPhase .idle

end Sys2Proof.Machine
end

