-- ==== Sys2Proof/Machine/Operands.lean ====
section
/-! DEFINITION. Operand forms: how an operation reads its operands from registers and buffers (30_encoding
R92, R95), and what an operation in flight expects of the transport (10_state R26, 41_dispatcher R121). -/

namespace Sys2Proof.Machine

/-- Registers 0 to n-1 of a file, in order. A file has them all in every state that meets `State.wf`. -/
def readFirst {w : Nat} (n : Nat) (file : List (Slot w)) : List (BitVec w) :=
  (List.range n).map fun i => ((file[i]?).map Slot.bits).getD 0

/-- Whether registers 0 to n-1 of a file have been written since reset (R42). -/
def writtenFirst {w : Nat} (n : Nat) (file : List (Slot w)) : Bool :=
  (List.range n).all fun i => ((file[i]?).map Slot.written).getD false

/-- The payload operand of ENCODE and CALL: `PAY[0..PLEN-1]` (R24, R92). -/
def payloadOperand (s : State) : List Byte := readFirst s.plen.toNat s.pay

/-- The values operand of ENCF and XFER: `VAL[0..NV-1]` (R25, R92). -/
def valuesOperand (f : CmdFields) (s : State) : List Word := readFirst f.nv.toNat s.val

/-- The payload of ENCF and XFER: `pack(SELEN, SEL, VAL[0..NV-1])` (R105, R126). -/
def packedOperand (f : CmdFields) (s : State) : List Byte := pack f.selen f.sel (valuesOperand f s)

/-- The raw bytes DECF decodes: `RBUF[0..4*AR-1]`, read only when `RLEN = 4*AR` (R107). -/
def rawOperand (f : CmdFields) (s : State) : List Byte := readFirst (4 * f.ar.toNat) s.rbuf

/-- The frame in the frame buffer: `FRM[0..FLEN-1]` (R27). -/
def frameOperand (s : State) : List Byte := s.frm.take s.flen.toNat

/-- Whether the operation in flight is XFER: its word stands in CMD, which nothing writes while BUSY = 1
(R21, R33; log 13). -/
def transferring (s : State) : Bool := s.cmd.extractLsb' 0 3 == 5#3

/-- `AR` of the operation in flight (R21). -/
def arityInFlight (s : State) : Nat := (s.cmd.extractLsb' 24 4).toNat

/-- `n`, the reply size of the operation in flight: `4*AR` for XFER, `EXP` for CALL (R121, R95). -/
def replySize (s : State) : Nat := if transferring s then 4 * arityInFlight s else s.exp.toNat

end Sys2Proof.Machine
end

