-- ==== Sys2Proof/Machine/Ops.lean ====
section
/-! DEFINITION. The shared operations: writing register files, issuing a command word, building a frame, the
three transport primitives (20_memory R51 to R55), the failure entry (60_exceptions R150) and completion. -/

namespace Sys2Proof.Machine

/-- A file with its first registers overwritten by `new`, in order; the others keep their values. -/
def overwrite {α : Type} : List α → List α → List α
  | old, [] => old
  | [], _ :: _ => []
  | _ :: old, v :: new => v :: overwrite old new

/-- `VAL[0..len-1] <- vs` (R25). -/
def putValues (vs : List Word) (s : State) : State := s.setVal (overwrite s.val (vs.map Slot.put))

/-- `RBUF[0..len-1] <- r ; RLEN <- len` (R26). -/
def putReply (r : List Byte) (s : State) : State :=
  s.setReply (overwrite s.rbuf (r.map Slot.put)) (BitVec.ofNat 8 r.length)

/-- Issue of a command word (R21): ignored while BUSY = 1 (R33, R149), else CMD takes the word and the
operation it spells goes on from there. -/
def issue (w : Word) (s : State) (run : State → Result) : Result :=
  if s.busy then .next s else run (s.setCmd w)

/-- Build `frame(opc, p)` into `FRM[0..FLEN-1]` and `FLEN`, then go on (R27, R102); a payload above 255
bytes has no frame (R104). -/
def withFrame (opc : Byte) (payload : List Byte) (s : State) (run : State → Result) : Result :=
  match buildFrame s.cfg opc payload with
  | none => .refused .payloadTooLong
  | some f => run (s.setFrame (overwrite s.frm f) (BitVec.ofNat 9 f.length))

/-- The transport's answer to the primitive being asked: the oldest the state lists, else a free one (log 4). -/
def takeDraw (s : State) : Draw × State :=
  match s.answers with
  | d :: rest => (d, s.setAnswers rest)
  | [] => (Config.freeDraw s.draws, s.setDraws (s.draws + 1))

/-- After a hard fault the transport may be left not connected (R51, R55; log 16). -/
def dropIf (d : Draw) (s : State) : State := s.setConn (s.conn && !d.drop)

/-- `TxWrite(bytes)` (R51, R55): whether it answered ok, and the state after it. -/
def txWrite (bytes : List Byte) (s : State) : Bool × State :=
  if s.conn then
    let (d, s) := takeDraw s
    if d.fault then (false, dropIf d (s.setTxs (s.txs ++ bytes.take d.sent)))
    else (true, s.setTxs (s.txs ++ bytes))
  else (false, s)

/-- `TxFlush()` (R52, R55): whether it answered ok, and the state after it. -/
def txFlush (s : State) : Bool × State :=
  if s.conn then
    let (d, s) := takeDraw s
    if d.fault then (false, dropIf d s) else (true, s)
  else (false, s)

/-- `RxRead(n)` (R53, R54, R55): the bytes it answered, or none for a fault, and the state after it. The
answer is the first bytes of RXQ, at most n of them, as many as the environment draws (log 15). -/
def rxRead (n : Nat) (s : State) : Option (List Byte) × State :=
  if n = 0 then (some [], s)
  else if s.conn then
    let (d, s) := takeDraw s
    if d.fault then (none, dropIf d s)
    else
      let k := min n d.got
      (some (s.rxq.take k), s.setRxq (s.rxq.drop k))
  else (none, s)

/-- The results an operation in flight leaves: the reply bytes, and for XFER the values (R120, R126, R150). -/
def deliver (r : List Byte) (s : State) : State :=
  let s := putReply r s
  if transferring s then putValues (wordsOf r) s else s

/-- `fail(code)`, the failure entry of CALL and XFER (R150): a zero-filled reply of the expected length, for
XFER zero values, the code, and back to IDLE. Nothing is saved, since nothing is resumed (R150, R152). -/
def fail (st : Status) (s : State) : State :=
  let n := replySize s
  let s := putReply (List.replicate n 0) s
  let s := if transferring s then putValues (List.replicate (arityInFlight s) pzero) s else s
  complete st s

/-- The end of a CALL or XFER whose read was full (R120 step 4, R126). -/
def finish (r : List Byte) (s : State) : State := complete .ok (deliver r s)

end Sys2Proof.Machine
end

