-- ==== Sys2Proof/Machine/CodecOps.lean ====
section
/-! DEFINITION. The Frame Codec's operations, ENCODE, ENCF and DECF (40_codec R103, R105, R107). They touch
no stream and end in the step that issues them (R29, R117). -/

namespace Sys2Proof.Machine

/-- ENCODE (R103): `frame(OPC, PAY[0..PLEN-1])` into FRM and FLEN. -/
def execEncode (f : CmdFields) (s : State) : Result :=
  issue (commandWord 0 1 f) s fun s =>
    withFrame f.opc (payloadOperand s) s fun s => .next (succeed s)

/-- ENCF (R105): `frame(OPC, pack(SELEN, SEL, VAL[0..NV-1]))` into FRM and FLEN; `NV > MAX_VALUES` is
refused (R93). -/
def execEncf (f : CmdFields) (s : State) : Result :=
  issue (commandWord 0 2 f) s fun s =>
    if s.cfg.maxValues.val < f.nv.toNat then .next (refuse s)
    else withFrame f.opc (packedOperand f s) s fun s => .next (succeed s)

/-- DECF (R107): on `RLEN = 4*AR` the values of RBUF, else zero values and ST_LEN_MISMATCH;
`AR > MAX_VALUES` is refused (R93). -/
def execDecf (f : CmdFields) (s : State) : Result :=
  issue (commandWord 0 3 f) s fun s =>
    if s.cfg.maxValues.val < f.ar.toNat then .next (refuse s)
    else if s.rlen.toNat = 4 * f.ar.toNat then
      .next (succeed (putValues (wordsOf (rawOperand f s)) s))
    else .next ((putValues (List.replicate f.ar.toNat pzero) s).setStatus .lenMismatch)

end Sys2Proof.Machine
end

