-- ==== Sys2Proof/Machine/DispatcherOps.lean ====
section
/-! DEFINITION. The Command Dispatcher's operations, CALL and XFER (41_dispatcher R120, R126). Their issue is
the first row of R121: the whole frame is built before any byte is written (R63), BUSY is set, and the
sequencer goes to TX. The rows after it are the FRAME step (Wire), the FLUSH step and the REPLY step. -/

namespace Sys2Proof.Machine

/-- CALL (R120): the frame of ENCODE, then the exchange with a reply of `EXP` bytes; `EXP > RX_MAX` is
refused (R93). -/
def execCall (f : CmdFields) (s : State) : Result :=
  issue (commandWord 0 4 f) s fun s =>
    if s.cfg.rxMax < s.exp.toNat then .next (refuse s)
    else withFrame f.opc (payloadOperand s) s fun s => .next (s.setPhase .tx)

/-- XFER (R126): the frame of ENCF, then the exchange with a reply of `4*AR` bytes; `NV` or `AR` above
MAX_VALUES is refused (R93). -/
def execXfer (f : CmdFields) (s : State) : Result :=
  issue (commandWord 0 5 f) s fun s =>
    if s.cfg.maxValues.val < f.nv.toNat then .next (refuse s)
    else if s.cfg.maxValues.val < f.ar.toNat then .next (refuse s)
    else withFrame f.opc (packedOperand f s) s fun s => .next (s.setPhase .tx)

end Sys2Proof.Machine
end

