-- ==== Sys2Proof/Machine/ReservedOps.lean ====
section
/-! DEFINITION. The reserved command words (30_encoding R93): the block stores the word and refuses it
(60_exceptions R147). The refusal is a next state, not a stop. -/

namespace Sys2Proof.Machine

/-- OP = 0b000 (R93 test 2). -/
def execReservedOp0 (f : CmdFields) (s : State) : Result :=
  issue (commandWord 0 0 f) s fun s => .next (refuse s)

/-- OP = 0b110 (R93 test 2). -/
def execReservedOp6 (f : CmdFields) (s : State) : Result :=
  issue (commandWord 0 6 f) s fun s => .next (refuse s)

/-- OP = 0b111 (R93 test 2). -/
def execReservedOp7 (f : CmdFields) (s : State) : Result :=
  issue (commandWord 0 7 f) s fun s => .next (refuse s)

/-- RSV not zero (R93 test 1, before OP is looked at). -/
def execReservedRsv (rsv : BitVec 4) (op : BitVec 3) (f : CmdFields) (s : State) : Result :=
  issue (commandWord rsv op f) s fun s => .next (refuse s)

end Sys2Proof.Machine
end

