-- ==== Sys2Proof/Machine/WireOps.lean ====
section
/-! DEFINITION. The two wire formats as the block acts on them: a FRAME goes out at PHASE TX and a REPLY
comes in at PHASE RX (41_dispatcher R121; log 7). Between them stands the FLUSH step. In any other phase
the sequencer has no such transition (R121), so nothing changes. -/

namespace Sys2Proof.Machine

/-- FRAME: the TX row of R121, `TxWrite` of the whole frame (R51, R63). Over 255 payload bytes it is no
frame (R104). -/
def execFrame (opc : Byte) (payload : List Byte) (checksum : Byte) (s : State) : Result :=
  if s.phase ≠ .tx then .next s
  else if maxPayload < payload.length then .refused .payloadTooLong
  else
    match txWrite (frameHead s.cfg opc payload ++ [checksum]) s with
    | (true, s) => .next (s.setPhase .flush)
    | (false, s) => .next (fail .transportFault s)

/-- The FLUSH row of R121: `TxFlush`, the one barrier (R52, R66). -/
def flushStep (s : State) : State :=
  match txFlush s with
  | (true, s) => s.setPhase .rx
  | (false, s) => fail .transportFault s

/-- REPLY: steps 3 and 4 of R120 on the bytes the read answered. Fewer than asked for is a short read and
they are discarded (R141, R150); a full read is accepted whatever it holds (R125). Bytes past those asked
for are not the block's: they stay in RXQ (R181; log 23). -/
def execReply (bytes : List Byte) (s : State) : Result :=
  if s.phase ≠ .rx then .next s
  else if bytes.length < replySize s then .next (fail .shortRead s)
  else
    let n := replySize s
    .next (finish (bytes.take n) (s.setRxq (bytes.drop n ++ s.rxq)))

end Sys2Proof.Machine
end

