-- ==== Sys2Proof/Machine/Dispatch.lean ====
section
/-! DEFINITION. One arm per row of the opcode table. -/

namespace Sys2Proof.Machine

def exec (i : Instr) (s : State) : Host.Outcome State Fault Refusal :=
  match i with
  | .encode f => Sys2Proof.Machine.execEncode f s
  | .encf f => Sys2Proof.Machine.execEncf f s
  | .decf f => Sys2Proof.Machine.execDecf f s
  | .call f => Sys2Proof.Machine.execCall f s
  | .xfer f => Sys2Proof.Machine.execXfer f s
  | .reservedOp0 f => Sys2Proof.Machine.execReservedOp0 f s
  | .reservedOp6 f => Sys2Proof.Machine.execReservedOp6 f s
  | .reservedOp7 f => Sys2Proof.Machine.execReservedOp7 f s
  | .reservedRsv rsv op f => Sys2Proof.Machine.execReservedRsv rsv op f s
  | .frame opc payload checksum => Sys2Proof.Machine.execFrame opc payload checksum s
  | .reply bytes => Sys2Proof.Machine.execReply bytes s

end Sys2Proof.Machine
end

