-- ==== Sys2Proof/Machine/HostPort.lean ====
section
/-! DEFINITION. The host's side of the block: the register map (10_state R32), access while busy (R33),
connect and disconnect (41_dispatcher R135) and the reset input (70_reset R170, R171). -/

namespace Sys2Proof.Machine

/-- The registers the map names (R32). -/
inductive HostReg where
  | cmd
  | plen
  | exp
  | stat
  | rlen
  | flen
  | val (i : Nat)
  | pay (i : Nat)
  | rbuf (i : Nat)
  | frm (i : Nat)
  deriving DecidableEq, Repr

/-- How many value registers have an offset: all of them, up to the 48 that end where PAY begins (R32; log 9). -/
def mappedValues (c : Config) : Nat := min c.maxValues.val 48

/-- The register at an offset, by the rows of R32; none where the map lists nothing. -/
def regAt (c : Config) (offset : Nat) : Option HostReg :=
  if offset = 0x000 then some .cmd
  else if offset = 0x004 then some .plen
  else if offset = 0x008 then some .exp
  else if offset = 0x00C then some .stat
  else if offset = 0x010 then some .rlen
  else if offset = 0x014 then some .flen
  else if 0x040 ≤ offset ∧ offset < 0x040 + 4 * mappedValues c ∧ offset % 4 = 0 then
    some (.val ((offset - 0x040) / 4))
  else if 0x100 ≤ offset ∧ offset < 0x100 + 255 then some (.pay (offset - 0x100))
  else if 0x200 ≤ offset ∧ offset < 0x200 + c.rxMax then some (.rbuf (offset - 0x200))
  else if 0x300 ≤ offset ∧ offset < 0x300 + maxFrame then some (.frm (offset - 0x300))
  else none

/-- A host write to a register the map lets the host write, with BUSY = 0 (R32). A write to CMD issues the
operation the word spells (R21); written bits above a register's width are ignored. -/
def storeReg (offset : Nat) (r : HostReg) (v : Word) (s : State) : Result :=
  match r with
  | .cmd => exec (decodeWord v) s
  | .plen => .next (s.setPlen (v.setWidth 8))
  | .exp => .next (s.setExp (v.setWidth 8))
  | .rlen => .next (s.setReply s.rbuf (v.setWidth 8))
  | .val i => .next (s.setVal (s.val.set i (.put v)))
  | .pay i => .next (s.setPay (s.pay.set i (.put (v.setWidth 8))))
  | .rbuf i => .next (s.setReply (s.rbuf.set i (.put (v.setWidth 8))) s.rlen)
  | .stat => .refused (.readOnlyRegister offset)
  | .flen => .refused (.readOnlyRegister offset)
  | .frm _ => .refused (.readOnlyRegister offset)

/-- A host write (R32, R33): refused outside the map, ignored while BUSY = 1. -/
def hostWrite (offset : Nat) (v : Word) (s : State) : Result :=
  match regAt s.cfg offset with
  | none => .refused (.noSuchRegister offset)
  | some r => if s.busy then .next s else storeReg offset r v s

/-- What a slot shows the host: its bits, upper bits 0, or nothing the spec states if it is unwritten (R42). -/
def shown {w : Nat} (slot : Option (Slot w)) : Option Word :=
  match slot with
  | some x => if x.written then some (x.bits.setWidth 32) else none
  | none => none

/-- What a host read returns, or none where the spec leaves the value unspecified: any register but STAT
while BUSY = 1 (R33), a register nothing has written (R42), FRM at FLEN and above (R27). -/
def visible (r : HostReg) (s : State) : Option Word :=
  match r with
  | .stat => some s.stat
  | .cmd => if s.busy then none else some s.cmd
  | .plen => if s.busy then none else some (s.plen.setWidth 32)
  | .exp => if s.busy then none else some (s.exp.setWidth 32)
  | .rlen => if s.busy then none else some (s.rlen.setWidth 32)
  | .flen => if s.busy then none else some (s.flen.setWidth 32)
  | .val i => if s.busy then none else shown s.val[i]?
  | .pay i => if s.busy then none else shown s.pay[i]?
  | .rbuf i => if s.busy then none else shown s.rbuf[i]?
  | .frm i => if s.busy then none else ((frameOperand s)[i]?).map (·.setWidth 32)

/-- A host read (R32): a free value where the spec leaves it unspecified (log 8); reading changes no
register of the block. -/
def hostRead (offset : Nat) (s : State) : Result :=
  match regAt s.cfg offset with
  | none => .refused (.noSuchRegister offset)
  | some r =>
    match visible r s with
    | some w => .next (s.setRdata w)
    | none => .next ((s.setRdata (Config.freeWord s.draws)).setDraws (s.draws + 1))

/-- `connect` (R135): CONN true, T_READ and the rest fixed; not while BUSY = 1 (log 10, log 27). -/
def connect (l : Link) (s : State) : Result :=
  if s.busy then .refused .linkMovedWhileBusy else .next ((s.setConn true).setLink l)

/-- `disconnect` (R135): CONN false; not while BUSY = 1 (log 10, log 27). -/
def disconnect (s : State) : Result :=
  if s.busy then .refused .linkMovedWhileBusy else .next (s.setConn false)

/-- The reset input (R170, R171): every register of the block at its reset value, the constants, the
transport and what is still to land untouched. -/
def resetBlock (s : State) : State :=
  let z := State.initial s.cfg
  { z with
    txs := s.txs
    rxq := s.rxq
    conn := s.conn
    link := s.link
    answers := s.answers
    draws := s.draws
    inputs := s.inputs
    rdata := s.rdata }

end Sys2Proof.Machine
end

