-- ==== Sys2Proof/Machine/Sequencer.lean ====
section
/-! DEFINITION. What a step does: a move of the host or the environment lands, or the block takes the next
arrow of 41_dispatcher R121 (log 5). -/

namespace Sys2Proof.Machine

/-- The TX step: the frame in `FRM[0..FLEN-1]` goes out (R121). -/
def sendStep (s : State) : Result :=
  match decode s.cfg .request (frameOperand s) with
  | .ok i => exec i s
  | .rejected _ => .fault .frameCorrupt

/-- The RX step: `RxRead(n)`, then the reply it answered (R121). -/
def readStep (s : State) : Result :=
  match rxRead (replySize s) s with
  | (none, s) => .next (fail .transportFault s)
  | (some bytes, s) =>
    match decode s.cfg .reply bytes with
    | .ok i => exec i s
    | .rejected _ => .fault .frameCorrupt

/-- The block's turn: one arrow of R121; at IDLE it has none (R35). -/
def advance (s : State) : Result :=
  match s.phase with
  | .idle => .next s
  | .tx => sendStep s
  | .flush => .next (flushStep s)
  | .rx => readStep s

/-- A move lands (R188, R38). Bytes that arrive raise nothing (R148). -/
def land (i : Input) (s : State) : Result :=
  match i with
  | .run => advance s
  | .write offset v => hostWrite offset v s
  | .read offset => hostRead offset s
  | .connect l => connect l s
  | .disconnect => disconnect s
  | .reset => .next (resetBlock s)
  | .arrive bytes => .next (s.setRxq (s.rxq ++ bytes))

/-- One step: the oldest move still to land, else the block's turn (log 5). -/
def turn (s : State) : Result :=
  match s.inputs with
  | [] => advance s
  | i :: rest => land i (s.setInputs rest)

/-- The instruction stored where the next step fetches it: a command word as the host's next write to CMD
with the block idle (R21), wire bytes in FRM with the sequencer at TX (R121; log 6). -/
def placeTableWord (s : State) (nbits w : Nat) : State :=
  if nbits = 32 then
    (s.setPhase .idle).setInputs (.write 0x000 (BitVec.ofNat 32 w) :: s.inputs)
  else
    let bytes := tableFrameBytes nbits w
    ((s.setFrame (overwrite s.frm bytes) (BitVec.ofNat 9 bytes.length)).setPhase .tx).setInputs
      (.run :: s.inputs)

end Sys2Proof.Machine
end

