-- ==== Sys2Proof/Machine/Registry.lean ====
section
/-! DEFINITION. What the host does with a registry entry: it puts the entry's opcode in OPC and its reply
arity in AR (10_state R37), so that every Facade operation is one XFER (30_encoding R97, 41_dispatcher
R131). The block reads no registry field (R94). -/

namespace Sys2Proof.Machine

/-- The entry of a wire opcode (R37: opcodes are unique per entry). -/
def entryOf (c : Config) (opcode : Byte) : Option RegistryEntry :=
  c.registry.find? fun e => e.opcode == opcode

/-- A payload shape an entry of this direction may send: a write has at least one value (R130), a pure read has none
(R130, R84), a read-write entry serves both uses. -/
def shapeFits : Direction → Shape → Bool
  | .read, p => p.nv == 0
  | .write, p => p.nv != 0
  | .readWrite, _ => true

/-- The shape a use of an entry sends: the entry's own (conflict C5). DESIGN CHOICE: where the entry carries none, the
one the host chooses for this use, since the spec does not say (log 28). -/
def shapeUsed (e : RegistryEntry) (chosen : Shape) : Shape := e.shape.getD chosen

/-- The XFER a use of a registry entry expands to (R97, R130, R131); none where the shape does not fit the entry's
direction (log 28). DESIGN CHOICE: the host supplies SEL at each use, since an entry has no field for it (R37, conflict
C5), although R131 has SELEN/SEL come from the entry (log 33). Only a shape with SELEN = 1 sends it. -/
def transferOf (e : RegistryEntry) (chosen : Shape) (sel : Byte) : Option Instr :=
  let p := shapeUsed e chosen
  if shapeFits e.direction p then
    some (.xfer { selen := p.selen, nv := p.nv, opc := e.opcode, sel := sel, ar := e.replyArity })
  else none

/-- `4 * reply_arity`, what the host puts in EXP for a CALL of this entry (R37, R87). -/
def replyBytesOf (e : RegistryEntry) : Nat := 4 * e.replyArity.toNat

end Sys2Proof.Machine
end

