-- ==== Sys2Proof/Machine/Observe.lean ====
section
/-! DEFINITION. When a run is over and what it shows (70_reset R186): TXS, and after each operation OK, STATUS and the
registers the operation's row of 10_state R34 marks as written (log 30). -/

namespace Sys2Proof.Machine

/-- The row of R34 marks FRM and FLEN as written. -/
def writesFrame : Instr → Bool
  | .encode _ => true
  | .encf _ => true
  | .decf _ => false
  | .call _ => true
  | .xfer _ => true
  | .reservedOp0 _ => false
  | .reservedOp6 _ => false
  | .reservedOp7 _ => false
  | .reservedRsv _ _ _ => false
  | .frame _ _ _ => false
  | .reply _ => false

/-- The row of R34 marks RBUF and RLEN as written; it is the row of an operation that uses the transport. -/
def writesReply : Instr → Bool
  | .encode _ => false
  | .encf _ => false
  | .decf _ => false
  | .call _ => true
  | .xfer _ => true
  | .reservedOp0 _ => false
  | .reservedOp6 _ => false
  | .reservedOp7 _ => false
  | .reservedRsv _ _ _ => false
  | .frame _ _ _ => false
  | .reply _ => false

/-- How many value registers the row of R34 marks as written, none where it marks none. -/
def valuesWritten : Instr → Option Nat
  | .encode _ => none
  | .encf _ => none
  | .decf f => some f.ar.toNat
  | .call _ => none
  | .xfer f => some f.ar.toNat
  | .reservedOp0 _ => none
  | .reservedOp6 _ => none
  | .reservedOp7 _ => none
  | .reservedRsv _ _ _ => none
  | .frame _ _ _ => none
  | .reply _ => none

/-- The operation last issued, whose word CMD holds; none after a refusal, which writes no result (R147), and none
after reset (R41). -/
def lastOperation (s : State) : Option Instr := if s.status = .refused then none else some (decodeWord s.cmd)

/-- What an operation shows when it has completed (R186, R34); none stands for registers its row leaves untouched. -/
structure OpResult where
  ok : Bool
  status : Status
  values : Option (List Word)
  reply : Option (List Byte)
  frame : Option (List Byte)
  deriving DecidableEq, Repr

/-- The result of the operation that has just completed (R186). -/
def resultOf (s : State) : OpResult :=
  { ok := s.ok
    status := s.status
    values := ((lastOperation s).bind valuesWritten).map fun n => readFirst n s.val
    reply := if (lastOperation s).any writesReply then some (readFirst s.rlen.toNat s.rbuf) else none
    frame := if (lastOperation s).any writesFrame then some (frameOperand s) else none }

/-- A move that issues an operation: the host's write to CMD, the only way one starts (R21). -/
def Input.issues : Input → Bool
  | .run => false
  | .write offset _ => offset == 0x000
  | .read _ => false
  | .connect _ => false
  | .disconnect => false
  | .reset => false
  | .arrive _ => false

/-- Whether an operation completes in the step from `s` to `t`: an issue that does not leave BUSY = 1, or the end of
an exchange, but not its abandonment by a reset (R29, R171). -/
def completes (s t : State) : Bool :=
  match s.inputs with
  | [] => s.busy && !t.busy
  | i :: _ => !t.busy && (if i.issues then !s.busy else s.busy && decide (i ≠ .reset))

/-- The run is over (R186): the last operation has completed and no other is to be issued. Moves of other kinds
may still be listed: the end of a run says nothing of arriving bytes, the device or the connection. -/
def State.runOver (s : State) : Bool :=
  !s.busy && decide (s.phase = .idle) && s.inputs.all fun i => !i.issues

/-- The observable result of a run (R186): every byte written, in order, and the results of the operations that
completed, in order. -/
structure RunResult where
  sent : List Byte
  results : List OpResult
  deriving DecidableEq, Repr

/-- What the first `k` steps from a state show (R186); a step that stops ends the run. -/
def observe : Nat → State → RunResult
  | 0, s => { sent := s.txs, results := [] }
  | k + 1, s =>
    match step s with
    | .next t =>
      { sent := (observe k t).sent
        results := (if completes s t then [resultOf t] else []) ++ (observe k t).results }
    | .fault _ => { sent := s.txs, results := [] }
    | .refused _ => { sent := s.txs, results := [] }

/-- What the host knows of results after the step from `s` to `t`: the result of the operation it completes, else the
one known before, but none after a reset, which leaves the result registers unspecified (R41; log 31). -/
def resultAfter (last : Option OpResult) (s t : State) : Option OpResult :=
  if completes s t then some (resultOf t)
  else if s.inputs.head? = some .reset then none
  else last

end Sys2Proof.Machine
end

