-- ==== Sys2Proof/Safety.lean ====
section
/-! DEFINITION. What counts as a safe run, in the terms claims use: the invariant of the block's registers,
and the host's duties (70_reset R172, R173, R188). -/

namespace Sys2Proof.Machine

/-- `FRM[0..FLEN-1]` holds nothing, or a frame of this block: its bytes read as one frame whose checksum is
right (30_encoding R86). -/
def State.frameOk (s : State) : Bool :=
  s.flen == 0 ||
    match decode s.cfg .request (frameOperand s) with
    | .ok i => i.wellFormed s.cfg
    | .rejected _ => false

/-- The command word in CMD is one of the two that set BUSY, and R93 does not refuse it (R29, R93). -/
def State.inFlightOk (s : State) : Bool :=
  match decodeWord s.cmd with
  | .call _ => decide (s.exp.toNat ≤ s.cfg.rxMax)
  | .xfer f => decide (f.nv.toNat ≤ s.cfg.maxValues.val) && decide (f.ar.toNat ≤ s.cfg.maxValues.val)
  | .encode _ => false
  | .encf _ => false
  | .decf _ => false
  | .reservedOp0 _ => false
  | .reservedOp6 _ => false
  | .reservedOp7 _ => false
  | .reservedRsv _ _ _ => false
  | .frame _ _ _ => false
  | .reply _ => false

/-- The invariant of every run: files and buffers have their lengths (R24 to R27), FLEN is at most 259
(R27), `OK = 1` iff `STATUS = 0` (R28), `BUSY = 0` iff `PHASE = IDLE` (R35), FRM holds a frame of this
block or nothing (R86), and while BUSY = 1 a frame is there and CMD spells the exchange in flight (R121). -/
def State.wf (s : State) : Bool :=
  decide (s.pay.length = 255) &&
  decide (s.val.length = s.cfg.maxValues.val) &&
  decide (s.rbuf.length = s.cfg.rxMax) &&
  decide (s.frm.length = maxFrame) &&
  decide (s.flen.toNat ≤ maxFrame) &&
  (s.ok == decide (s.status = .ok)) &&
  (s.busy == decide (s.phase ≠ .idle)) &&
  s.frameOk &&
  (!s.busy || (s.flen != 0 && s.inFlightOk))

/-- The host has loaded every operand the instruction reads (R42, R173): no register among them is
unwritten since reset. DESIGN CHOICE: only PAY, VAL and RBUF can be unwritten. PLEN, EXP and RLEN hold the 0 of R41
after reset and count as loaded with it, although the host has not written them (log 32). DESIGN CHOICE: a register
counts as loaded whoever wrote it since reset and however many operations ago, so a result an earlier operation left
(VAL after XFER, RBUF after CALL) is a loaded operand of the next (log 34). -/
def operandsLoaded (i : Instr) (s : State) : Bool :=
  match i with
  | .encode _ => writtenFirst s.plen.toNat s.pay
  | .encf f => writtenFirst f.nv.toNat s.val
  | .decf f => s.rlen.toNat != 4 * f.ar.toNat || writtenFirst (4 * f.ar.toNat) s.rbuf
  | .call _ => writtenFirst s.plen.toNat s.pay
  | .xfer f => writtenFirst f.nv.toNat s.val
  | .reservedOp0 _ => true
  | .reservedOp6 _ => true
  | .reservedOp7 _ => true
  | .reservedRsv _ _ _ => true
  | .frame _ _ _ => true
  | .reply _ => true

/-- R93 refuses the instruction when it is issued; it then reads no operand (R149). -/
def refusedAtIssue (i : Instr) (s : State) : Bool :=
  match i with
  | .encode _ => false
  | .encf f => decide (s.cfg.maxValues.val < f.nv.toNat)
  | .decf f => decide (s.cfg.maxValues.val < f.ar.toNat)
  | .call _ => decide (s.cfg.rxMax < s.exp.toNat)
  | .xfer f => decide (s.cfg.maxValues.val < f.nv.toNat) || decide (s.cfg.maxValues.val < f.ar.toNat)
  | .reservedOp0 _ => true
  | .reservedOp6 _ => true
  | .reservedOp7 _ => true
  | .reservedRsv _ _ _ => true
  | .frame _ _ _ => false
  | .reply _ => false

/-- Issuing the instruction keeps the host's duties (R188, R172, R173): a word that is refused may be spelled
freely, any other has its operands loaded, and no CALL or XFER is issued before the first connect. -/
def issueDutiful (i : Instr) (s : State) : Bool :=
  refusedAtIssue i s || (operandsLoaded i s && (!writesReply i || s.link.isSome))

/-- The registers the host loads (R188, first row). -/
def HostReg.loadable : HostReg → Bool
  | .cmd => false
  | .plen => true
  | .exp => true
  | .stat => false
  | .rlen => true
  | .flen => false
  | .val _ => true
  | .pay _ => true
  | .rbuf _ => true
  | .frm _ => false

/-- What the host may read with BUSY = 0: of the result registers only those the last operation wrote, which are the
ones its result shows, whatever the host has loaded since (R188, fourth row; log 31); the table puts no such duty on its
reads of CMD, STAT and the registers it alone writes. -/
def HostReg.collectable (r : HostReg) (last : Option OpResult) : Bool :=
  match r with
  | .cmd => true
  | .plen => true
  | .exp => true
  | .stat => true
  | .pay _ => true
  | .rlen => (last.bind OpResult.reply).isSome
  | .flen => (last.bind OpResult.frame).isSome
  | .val i => (last.bind OpResult.values).any fun vs => decide (i < vs.length)
  | .rbuf i => (last.bind OpResult.reply).any fun r => decide (i < r.length)
  | .frm i => (last.bind OpResult.frame).any fun f => decide (i < f.length)

/-- A move keeps the host's duties (R188): issues, loads, reads and moves of the link only while BUSY = 0, save reads
of STAT; accesses only at the map's offsets and in its directions (R32). `last` is the result of the operation that
completed last. The environment has no duty. -/
def Input.dutiful (i : Input) (last : Option OpResult) (s : State) : Bool :=
  match i with
  | .run => true
  | .write offset v =>
    match regAt s.cfg offset with
    | none => false
    | some r => !s.busy && (if r = .cmd then issueDutiful (decodeWord v) s else r.loadable)
  | .read offset =>
    match regAt s.cfg offset with
    | none => false
    | some r => if r = .stat then true else !s.busy && r.collectable last
  | .connect _ => !s.busy
  | .disconnect => !s.busy
  | .reset => true
  | .arrive _ => true

/-- The step about to be taken keeps the host's duties. -/
def State.dutiful (s : State) (last : Option OpResult) : Bool :=
  match s.inputs with
  | [] => true
  | i :: _ => i.dutiful last s

/-- The first `k` steps keep the host's duties (R188), as far as they are taken. -/
def dutifulRun : Nat → Option OpResult → State → Bool
  | 0, _, _ => true
  | k + 1, last, s =>
    s.dutiful last &&
      match step s with
      | .next t => dutifulRun k (resultAfter last s t) t
      | .fault _ => true
      | .refused _ => true

/-- A step that neither faults nor is refused. -/
def State.safe (s : State) : Prop := ∃ t, step s = .next t

end Sys2Proof.Machine
end

