-- ==== Sys2Proof/Certificates/Slice0/Obligations.lean ====
section
/-! DEFINITION. The statements for the provers. What a statement expects is written here from the spec's
arithmetic (bytes, sums, quotients), not with the model's own codec functions. Where a statement says
`t = { s with x := t.x, … }`, the fields listed are all that may have changed. -/

namespace Sys2Proof.Claims

open Sys2Proof.Machine

/-- The bits of registers 0 to n-1 of a file. -/
def firstBits {w : Nat} (n : Nat) (file : List (Slot w)) : List (BitVec w) := (file.take n).map Slot.bits

/-- The natural sum of bytes (R9). -/
def total (bytes : List Byte) : Nat := (bytes.map BitVec.toNat).sum

/-- The bytes of a frame (R80, R85): start byte, opcode, length, payload, and the sum of all these modulo 256. -/
def wireFrame (c : Config) (opc : Byte) (payload : List Byte) : List Byte :=
  let head := [c.startByte, opc, BitVec.ofNat 8 payload.length] ++ payload
  head ++ [BitVec.ofNat 8 (total head % 256)]

/-- A pattern's bytes, the byte of weight 256^j at place j (R10, R57). -/
def littleEndian (w : Word) : List Byte := [0, 1, 2, 3].map fun j => BitVec.ofNat 8 (w.toNat / 256 ^ j)

/-- Value `i` of a byte sequence, from its bytes `4*i` to `4*i+3` (R10, R87). -/
def valueAt (bytes : List Byte) (i : Nat) : Word :=
  BitVec.ofNat 32 ((bytes.getD (4 * i) 0).toNat + 256 * (bytes.getD (4 * i + 1) 0).toNat +
    65536 * (bytes.getD (4 * i + 2) 0).toNat + 16777216 * (bytes.getD (4 * i + 3) 0).toNat)

/-- The first `n` values of a byte sequence (R116). -/
def valuesIn (bytes : List Byte) (n : Nat) : List Word := (List.range n).map (valueAt bytes)

/-- The payload of ENCF and XFER: the selector if SELEN = 1, then the values of VAL[0..NV-1] (R84, R101). -/
def floatPayload (f : CmdFields) (s : State) : List Byte :=
  (if f.selen then [f.sel] else []) ++ (firstBits f.nv.toNat s.val).flatMap littleEndian

/-- Whether CMD spells XFER, by the number in its bits 2:0 (R91). -/
def isTransfer (s : State) : Bool := s.cmd.toNat % 8 == 5

/-- AR of the word in CMD, bits 27:24 (R90). -/
def arity (s : State) : Nat := s.cmd.toNat / 2 ^ 24 % 16

/-- The reply size of the exchange in flight (R121: "`n` is `EXP` for `CALL` and `4*AR` for `XFER`"). -/
def awaited (s : State) : Nat := if isTransfer s then 4 * arity s else s.exp.toNat

/-- A file whose first registers hold `new` and whose others are those of `old`. -/
def Overwritten {w : Nat} (new : List (BitVec w)) (old file : List (Slot w)) : Prop :=
  file = new.map Slot.put ++ old.drop new.length

/-- FRM and FLEN hold exactly these bytes (R27). -/
def HoldsFrame (bytes : List Byte) (t : State) : Prop :=
  t.frm.take bytes.length = bytes ∧ t.flen.toNat = bytes.length

/-- The exchange in flight at `s` has ended in `t` with a failure of this code: a zero-filled reply of the
expected length, for XFER zero values, and back at IDLE (R150). -/
def Failed (code : Status) (s t : State) : Prop :=
  Overwritten (List.replicate (awaited s) 0) s.rbuf t.rbuf ∧ t.rlen.toNat = awaited s ∧
  (if isTransfer s then Overwritten (List.replicate (arity s) 0) s.val t.val else t.val = s.val) ∧
  t.ok = false ∧ t.status = code ∧ t.busy = false ∧ t.phase = .idle

/-- The exchange in flight at `s` has ended in `t` with this reply, for XFER decoded into VAL (R120 step 4,
R126). -/
def Succeeded (reply : List Byte) (s t : State) : Prop :=
  Overwritten reply s.rbuf t.rbuf ∧ t.rlen.toNat = awaited s ∧
  (if isTransfer s then Overwritten (valuesIn reply (arity s)) s.val t.val else t.val = s.val) ∧
  t.ok = true ∧ t.status = .ok ∧ t.busy = false ∧ t.phase = .idle

/-- How an exchange issued at `s` (its word in CMD) has ended in `t`, by the connection and the transport's three
answers, the first three `s` lists: the branches of R120 in the order its steps run, with what each primitive does to
the streams and the connection (R51 to R55) and how many answers are used up. That no read follows a failed write or
flush, that a faulting read takes no bytes and that a read of none never faults are log 17 (the spec's own choice: D13,
D11, D15); that a fault at the flush or the read may drop the connection is log 16. -/
def ExchangeEnds (frame : List Byte) (d1 d2 d3 : Draw) (s t : State) : Prop :=
  if s.conn = false then
    Failed .transportFault s t ∧ t.txs = s.txs ∧ t.rxq = s.rxq ∧ t.conn = false ∧ t.answers = s.answers
  else if d1.fault = true then
    Failed .transportFault s t ∧ t.txs = s.txs ++ frame.take d1.sent ∧ t.rxq = s.rxq ∧ t.conn = !d1.drop ∧
      t.answers = s.answers.drop 1
  else if d2.fault = true then
    Failed .transportFault s t ∧ t.txs = s.txs ++ frame ∧ t.rxq = s.rxq ∧ t.conn = !d2.drop ∧
      t.answers = s.answers.drop 2
  else if awaited s = 0 then
    Succeeded [] s t ∧ t.txs = s.txs ++ frame ∧ t.rxq = s.rxq ∧ t.conn = true ∧ t.answers = s.answers.drop 2
  else if d3.fault = true then
    Failed .transportFault s t ∧ t.txs = s.txs ++ frame ∧ t.rxq = s.rxq ∧ t.conn = !d3.drop ∧
      t.answers = s.answers.drop 3
  else if awaited s ≤ d3.got ∧ awaited s ≤ s.rxq.length then
    Succeeded (s.rxq.take (awaited s)) s t ∧ t.txs = s.txs ++ frame ∧ t.rxq = s.rxq.drop (awaited s) ∧
      t.conn = true ∧ t.answers = s.answers.drop 3
  else
    Failed .shortRead s t ∧ t.txs = s.txs ++ frame ∧ t.rxq = s.rxq.drop (min (awaited s) d3.got) ∧
      t.conn = true ∧ t.answers = s.answers.drop 3

/-- Rule R93: the conditions under which a command word is refused, by the numbers in its fields. -/
def RefusedWord (s : State) (w : Word) : Prop :=
  w.toNat / 2 ^ 28 ≠ 0 ∨
  (w.toNat % 8 = 0 ∨ w.toNat % 8 = 6 ∨ w.toNat % 8 = 7) ∨
  ((w.toNat % 8 = 2 ∨ w.toNat % 8 = 5) ∧ s.cfg.maxValues.val < w.toNat / 16 % 16) ∨
  ((w.toNat % 8 = 3 ∨ w.toNat % 8 = 5) ∧ s.cfg.maxValues.val < w.toNat / 2 ^ 24 % 16) ∨
  (w.toNat % 8 = 4 ∧ s.cfg.rxMax < s.exp.toNat)

/-- An offset some row of R32 lists; at the default parameters there are 9 VAL and 36 RBUF rows. VAL
registers from the 49th on have no offset (log 9). -/
def ListedOffset (c : Config) (offset : Nat) : Prop :=
  offset ∈ [0x000, 0x004, 0x008, 0x00C, 0x010, 0x014] ∨
  (∃ i, i < c.maxValues.val ∧ i < 48 ∧ offset = 0x040 + 4 * i) ∨
  (∃ i, i < 255 ∧ offset = 0x100 + i) ∨
  (∃ i, i < 4 * c.maxValues.val ∧ offset = 0x200 + i) ∨
  (∃ i, i < 259 ∧ offset = 0x300 + i)

/-- An offset of R32 without write access: STAT, FLEN, FRM. -/
def ReadOnlyOffset (offset : Nat) : Prop :=
  offset = 0x00C ∨ offset = 0x014 ∨ (∃ i, i < 259 ∧ offset = 0x300 + i)

/-- The number PHASE has in STAT (R35). -/
def phaseNumber : Phase → Nat
  | .idle => 0
  | .tx => 1
  | .flush => 2
  | .rx => 3

/-- The number STATUS has (R145). -/
def statusNumber : Status → Nat
  | .ok => 0
  | .shortRead => 1
  | .transportFault => 2
  | .lenMismatch => 3
  | .refused => 4

/-- `k` steps of the machine, stopping where a step stops. -/
def runFrom : Nat → State → Result
  | 0, s => .next s
  | k + 1, s =>
    match step s with
    | .next t => runFrom k t
    | .fault r => .fault r
    | .refused r => .refused r

end Sys2Proof.Claims

open Sys2Proof Sys2Proof.Machine Sys2Proof.Claims

/-! Encodings. -/

/-- Words and frames written out in 95_test_vectors 2.2, 2.3, 2.4, 2.6 and 2.7 decode to what their rows say
(R90, R91, R93, R80). -/
def Obligations.WordsOfTheSpecDecodeAsItSays : Prop :=
  decodeWord 0x00001001 = .encode ⟨false, 0, 0x10, 0, 0⟩ ∧
  decodeWord 0x0AFF10F9 = .encode ⟨true, 15, 0x10, 0xFF, 10⟩ ∧
  decodeWord 0x0001312A = .encf ⟨true, 2, 0x31, 0x01, 0⟩ ∧
  decodeWord 0x09000003 = .decf ⟨false, 0, 0, 0, 9⟩ ∧
  decodeWord 0x00002204 = .call ⟨false, 0, 0x22, 0, 0⟩ ∧
  decodeWord 0x0101312D = .xfer ⟨true, 2, 0x31, 0x01, 1⟩ ∧
  decodeWord 0x00000000 = .reservedOp0 ⟨false, 0, 0, 0, 0⟩ ∧
  decodeWord 0x00000006 = .reservedOp6 ⟨false, 0, 0, 0, 0⟩ ∧
  decodeWord 0x00000007 = .reservedOp7 ⟨false, 0, 0, 0, 0⟩ ∧
  decodeWord 0x10001001 = .reservedRsv 1 1 ⟨false, 0, 0x10, 0, 0⟩ ∧
  decode .standard .request [0xBB, 0x10, 0x04, 0xDE, 0xAD, 0xBE, 0xEF, 0x07] =
    .ok (.frame 0x10 [0xDE, 0xAD, 0xBE, 0xEF] 0x07) ∧
  decode .standard .reply [0xCD, 0xCC, 0x4C, 0x3D] = .ok (.reply [0xCD, 0xCC, 0x4C, 0x3D])

/-- R90 and R91: every field of the command word stands where the table of R90 says, and with RSV = 0 the
operation select picks the operation of R91. -/
def Obligations.CommandWordFieldsStandWhereTheTableSays : Prop :=
  ∀ w : Word,
    (cmdFields w).selen = decide (w.toNat / 8 % 2 = 1) ∧
    (cmdFields w).nv.toNat = w.toNat / 16 % 16 ∧
    (cmdFields w).opc.toNat = w.toNat / 256 % 256 ∧
    (cmdFields w).sel.toNat = w.toNat / 2 ^ 16 % 256 ∧
    (cmdFields w).ar.toNat = w.toNat / 2 ^ 24 % 16 ∧
    (w.toNat / 2 ^ 28 = 0 →
      (w.toNat % 8 = 0 → decodeWord w = .reservedOp0 (cmdFields w)) ∧
      (w.toNat % 8 = 1 → decodeWord w = .encode (cmdFields w)) ∧
      (w.toNat % 8 = 2 → decodeWord w = .encf (cmdFields w)) ∧
      (w.toNat % 8 = 3 → decodeWord w = .decf (cmdFields w)) ∧
      (w.toNat % 8 = 4 → decodeWord w = .call (cmdFields w)) ∧
      (w.toNat % 8 = 5 → decodeWord w = .xfer (cmdFields w)) ∧
      (w.toNat % 8 = 6 → decodeWord w = .reservedOp6 (cmdFields w)) ∧
      (w.toNat % 8 = 7 → decodeWord w = .reservedOp7 (cmdFields w))) ∧
    (w.toNat / 2 ^ 28 ≠ 0 →
      ∃ rsv op, rsv.toNat = w.toNat / 2 ^ 28 ∧ op.toNat = w.toNat % 8 ∧
        decodeWord w = .reservedRsv rsv op (cmdFields w))

/-- Decode and encode agree: the encoding of every well-formed instruction, at its own port and under every
START_BYTE, reads back as that instruction, with every operand at every value. -/
def Obligations.EveryEncodingReadsBack : Prop :=
  ∀ (c : Config) (i : Instr), i.wellFormed c = true → decode c i.port (encode c i) = .ok i

/-- The other direction: bytes a port's decoder accepts are the encoding of what it reads, so no bit of them
is lost, and every four bytes are a command word. -/
def Obligations.EveryAcceptedEncodingIsKept : Prop :=
  (∀ (c : Config) (port : Port) (bytes : List Byte) (i : Instr),
    decode c port bytes = .ok i → i.port = port ∧ encode c i = bytes) ∧
  (∀ (c : Config) (w : Word), decode c .command (littleEndian w) = .ok (decodeWord w))

/-! The codec's pure functions. -/

/-- R100: the sum modulo 256; equally an 8-bit accumulator with the carry discarded; the order of the bytes
does not matter; the empty sequence gives 0. -/
def Obligations.ChecksumIsTheByteAccumulator : Prop :=
  (∀ bytes : List Byte, (cksum8 bytes).toNat = total bytes % 256) ∧
  (∀ bytes : List Byte, cksum8 bytes = bytes.foldl (fun acc b => acc + b) 0) ∧
  (∀ xs ys : List Byte, List.Perm xs ys → cksum8 xs = cksum8 ys) ∧
  cksum8 [] = 0

/-- R112 and R10: the codec's byte order is lossless in both directions, on every pattern, NaNs included. -/
def Obligations.PatternsSurviveTheByteOrder : Prop :=
  (∀ w : Word, le32 w = littleEndian w ∧ valueAt (le32 w) 0 = w) ∧
  (∀ (w : Word) (b0 b1 b2 b3 : Byte), le32 w = [b0, b1, b2, b3] → fromLe32 b0 b1 b2 b3 = w) ∧
  (∀ b0 b1 b2 b3 : Byte,
    fromLe32 b0 b1 b2 b3 = valueAt [b0, b1, b2, b3] 0 ∧ le32 (fromLe32 b0 b1 b2 b3) = [b0, b1, b2, b3])

/-- R80 and R102: a frame's bytes by offset, its size, and its checksum; above 255 payload bytes there is no
frame, so the length byte never wraps (R104). -/
def Obligations.FrameBytesStandAtTheirOffsets : Prop :=
  ∀ (c : Config) (opc : Byte) (p : List Byte),
    (p.length ≤ 255 → ∃ f, buildFrame c opc p = some f ∧ f = wireFrame c opc p ∧
      f.length = 4 + p.length ∧ f[0]? = some c.startByte ∧ f[1]? = some opc ∧
      (f[2]?).map BitVec.toNat = some p.length ∧
      (∀ k, k < p.length → f[3 + k]? = p[k]?) ∧
      (f[3 + p.length]?).map BitVec.toNat = some (total (f.take (3 + p.length)) % 256)) ∧
    (255 < p.length → buildFrame c opc p = none)

/-- R101: the selector if there is one, then the values in order, four bytes each; the length is s + 4n. -/
def Obligations.PackLaysOutSelectorThenValues : Prop :=
  ∀ (selen : Bool) (sel : Byte) (vs : List Word),
    pack selen sel vs = (if selen then [sel] else []) ++ vs.flatMap littleEndian ∧
    (pack selen sel vs).length = (if selen then 1 else 0) + 4 * vs.length ∧
    (∀ i j v, vs[i]? = some v → j < 4 →
      (pack selen sel vs)[(if selen then 1 else 0) + 4 * i + j]? =
        some (BitVec.ofNat 8 (v.toNat / 256 ^ j)))

/-- R114: DECF on the packed payload of values, with matching RLEN and AR, gives exactly those values back. -/
def Obligations.PackedValuesDecodeToThemselves : Prop :=
  ∀ (s : State) (f : CmdFields) (vs : List Word),
    s.wf = true → s.busy = false → f.ar.toNat ≤ s.cfg.maxValues.val → vs.length = f.ar.toNat →
    operandsLoaded (.decf f) s = true → s.rlen.toNat = 4 * vs.length → firstBits (4 * vs.length) s.rbuf = pack false 0 vs →
    ∃ t, exec (.decf f) s = .next t ∧ t.ok = true ∧ firstBits vs.length t.val = vs

/-! The five operations, where they complete. -/

/-- R103: ENCODE leaves the frame of OPC and PAY[0..PLEN-1] in FRM and FLEN and sets OK, and touches no
stream, no value, no reply. Loaded operands are R42's and R173's premise. -/
def Obligations.EncodeBuildsTheFrame : Prop :=
  ∀ (f : CmdFields) (s : State), s.wf = true → s.busy = false → operandsLoaded (.encode f) s = true →
    ∃ t, exec (.encode f) s = .next t ∧
      HoldsFrame (wireFrame s.cfg f.opc (firstBits s.plen.toNat s.pay)) t ∧
      t.flen.toNat = 4 + s.plen.toNat ∧ t.cmd = commandWord 0 1 f ∧ t.ok = true ∧ t.status = .ok ∧
      t = { s with cmd := t.cmd, frm := t.frm, flen := t.flen, ok := t.ok, status := t.status }

/-- R105: ENCF leaves the frame of OPC, the optional selector and VAL[0..NV-1] in FRM and FLEN and sets OK. -/
def Obligations.EncfBuildsTheFrame : Prop :=
  ∀ (f : CmdFields) (s : State), s.wf = true → s.busy = false → operandsLoaded (.encf f) s = true →
    f.nv.toNat ≤ s.cfg.maxValues.val →
    ∃ t, exec (.encf f) s = .next t ∧
      HoldsFrame (wireFrame s.cfg f.opc (floatPayload f s)) t ∧
      t.flen.toNat = 4 + f.selen.toNat + 4 * f.nv.toNat ∧
      t.cmd = commandWord 0 2 f ∧ t.ok = true ∧ t.status = .ok ∧
      t = { s with cmd := t.cmd, frm := t.frm, flen := t.flen, ok := t.ok, status := t.status }

/-- R105, "delegates to `encode`": ENCF gives exactly the frame ENCODE gives on the packed payload, once the
host has loaded that payload into PAY and its size into PLEN. Both leave the same FRM whole: that the bytes at FLEN and
above, which R27 calls unspecified, agree too is the model's choice of log 26, and that no premise asks for loaded
operands is log 2. -/
def Obligations.EncfIsEncodeOfThePackedPayload : Prop :=
  ∀ (f g : CmdFields) (s : State), s.wf = true → s.busy = false →
    f.nv.toNat ≤ s.cfg.maxValues.val → g.opc = f.opc →
    ∃ t u, exec (.encf f) s = .next t ∧
      exec (.encode g)
        { s with
          pay := (floatPayload f s).map Slot.put ++ s.pay.drop (floatPayload f s).length
          plen := BitVec.ofNat 8 (floatPayload f s).length } = .next u ∧
      t.frm = u.frm ∧ t.flen = u.flen ∧ t.ok = u.ok ∧ t.status = u.status

/-- R107: with `RLEN = 4*AR` DECF puts the AR values of RBUF into VAL[0..AR-1] and sets OK; with any other
RLEN all AR values are zero, never a partly filled vector, and the code is ST_LEN_MISMATCH (R108, R144). The
other values, RBUF, RLEN and the frame keep theirs. -/
def Obligations.DecfDecodesOrZeroes : Prop :=
  ∀ (f : CmdFields) (s : State), s.wf = true → s.busy = false → operandsLoaded (.decf f) s = true →
    f.ar.toNat ≤ s.cfg.maxValues.val →
    ∃ t, exec (.decf f) s = .next t ∧ t.cmd = commandWord 0 3 f ∧
      (s.rlen.toNat = 4 * f.ar.toNat →
        Overwritten (valuesIn (firstBits (4 * f.ar.toNat) s.rbuf) f.ar.toNat) s.val t.val ∧
        t.ok = true ∧ t.status = .ok) ∧
      (s.rlen.toNat ≠ 4 * f.ar.toNat →
        Overwritten (List.replicate f.ar.toNat 0) s.val t.val ∧ t.ok = false ∧ t.status = .lenMismatch) ∧
      t = { s with cmd := t.cmd, val := t.val, ok := t.ok, status := t.status }

/-- R120 issue, R121 row 1: CALL builds the frame of OPC and PAY[0..PLEN-1], sets BUSY and goes to TX;
nothing is sent, and OK and STATUS are not yet written. -/
def Obligations.CallIssueBuildsTheFrame : Prop :=
  ∀ (f : CmdFields) (s : State), s.wf = true → s.busy = false → operandsLoaded (.call f) s = true →
    s.exp.toNat ≤ s.cfg.rxMax →
    ∃ t, exec (.call f) s = .next t ∧
      HoldsFrame (wireFrame s.cfg f.opc (firstBits s.plen.toNat s.pay)) t ∧
      t.cmd = commandWord 0 4 f ∧ t.busy = true ∧ t.phase = .tx ∧
      t = { s with cmd := t.cmd, frm := t.frm, flen := t.flen, busy := t.busy, phase := t.phase }

/-- R126 issue, R121 row 1: XFER builds the frame of ENCF, sets BUSY and goes to TX. -/
def Obligations.XferIssueBuildsTheFrame : Prop :=
  ∀ (f : CmdFields) (s : State), s.wf = true → s.busy = false → operandsLoaded (.xfer f) s = true →
    f.nv.toNat ≤ s.cfg.maxValues.val → f.ar.toNat ≤ s.cfg.maxValues.val →
    ∃ t, exec (.xfer f) s = .next t ∧
      HoldsFrame (wireFrame s.cfg f.opc (floatPayload f s)) t ∧
      t.cmd = commandWord 0 5 f ∧ t.busy = true ∧ t.phase = .tx ∧
      t = { s with cmd := t.cmd, frm := t.frm, flen := t.flen, busy := t.busy, phase := t.phase }

/-- The model's choice (log 2), where R42 would have a model fault: the five operations complete also on
registers nothing has written since reset, and use the bits held there. -/
def Obligations.UnwrittenOperandsAreUsedAsHeld : Prop :=
  ∀ (f : CmdFields) (s : State), s.wf = true → s.busy = false →
    f.nv.toNat ≤ s.cfg.maxValues.val → f.ar.toNat ≤ s.cfg.maxValues.val → s.exp.toNat ≤ s.cfg.rxMax →
    (∃ t, exec (.encode f) s = .next t ∧
      HoldsFrame (wireFrame s.cfg f.opc (firstBits s.plen.toNat s.pay)) t) ∧
    (∃ t, exec (.encf f) s = .next t ∧ HoldsFrame (wireFrame s.cfg f.opc (floatPayload f s)) t) ∧
    (∃ t, exec (.decf f) s = .next t ∧
      (s.rlen.toNat = 4 * f.ar.toNat →
        firstBits f.ar.toNat t.val = valuesIn (firstBits (4 * f.ar.toNat) s.rbuf) f.ar.toNat)) ∧
    (∃ t, exec (.call f) s = .next t ∧ t.phase = .tx ∧
      HoldsFrame (wireFrame s.cfg f.opc (firstBits s.plen.toNat s.pay)) t) ∧
    (∃ t, exec (.xfer f) s = .next t ∧ t.phase = .tx ∧
      HoldsFrame (wireFrame s.cfg f.opc (floatPayload f s)) t)

/-- R93 and R147: each reserved command word is stored in CMD and refused, and nothing else changes. -/
def Obligations.ReservedWordsAreRefused : Prop :=
  ∀ (f : CmdFields) (rsv : BitVec 4) (op : BitVec 3) (s : State), s.busy = false →
    exec (.reservedOp0 f) s = .next { s with cmd := commandWord 0 0 f, ok := false, status := .refused } ∧
    exec (.reservedOp6 f) s = .next { s with cmd := commandWord 0 6 f, ok := false, status := .refused } ∧
    exec (.reservedOp7 f) s = .next { s with cmd := commandWord 0 7 f, ok := false, status := .refused } ∧
    exec (.reservedRsv rsv op f) s =
      .next { s with cmd := commandWord rsv op f, ok := false, status := .refused }

/-- R93 and R147: a command word is refused exactly when one of the five conditions holds; the refusal stores the word
in CMD, sets OK to 0 and STATUS to ST_REFUSED and does nothing else. Any other word is executed: ENCODE, ENCF and DECF
end with a STATUS other than ST_REFUSED, CALL and XFER leave BUSY = 1 and never raise ST_REFUSED. That this holds with
unwritten operands too, where R42 would have a model fault, is the model's choice (log 2). -/
def Obligations.WordsAreRefusedExactlyByTheFiveTests : Prop :=
  ∀ (s : State) (w : Word), s.busy = false →
    (RefusedWord s w →
      exec (decodeWord w) s = .next { s with cmd := w, ok := false, status := .refused }) ∧
    (¬ RefusedWord s w →
      ∃ t, exec (decodeWord w) s = .next t ∧ t.cmd = w ∧ (s.status ≠ .refused → t.status ≠ .refused) ∧
        (w.toNat % 8 = 1 ∨ w.toNat % 8 = 2 ∨ w.toNat % 8 = 3 → t.status ≠ .refused) ∧
        (t.busy = true ↔ w.toNat % 8 = 4 ∨ w.toNat % 8 = 5))

/-- R92: a field an operation does not read has no effect on anything but CMD, which stores it; on unwritten operands
too, where R42 would have a model fault (log 2). -/
def Obligations.UnreadFieldsHaveNoEffect : Prop :=
  ∀ (f g : CmdFields) (s : State), s.busy = false →
    (f.opc = g.opc → ∃ t u, exec (.encode f) s = .next t ∧ exec (.encode g) s = .next u ∧
      u = { t with cmd := u.cmd }) ∧
    (f.opc = g.opc → f.selen = g.selen → f.nv = g.nv → (f.selen = true → f.sel = g.sel) →
      ∃ t u, exec (.encf f) s = .next t ∧ exec (.encf g) s = .next u ∧ u = { t with cmd := u.cmd }) ∧
    (f.ar = g.ar → ∃ t u, exec (.decf f) s = .next t ∧ exec (.decf g) s = .next u ∧
      u = { t with cmd := u.cmd }) ∧
    (f.opc = g.opc → ∃ t u, exec (.call f) s = .next t ∧ exec (.call g) s = .next u ∧
      u = { t with cmd := u.cmd }) ∧
    (f.opc = g.opc → f.selen = g.selen → f.nv = g.nv → f.ar = g.ar → (f.selen = true → f.sel = g.sel) →
      ∃ t u, exec (.xfer f) s = .next t ∧ exec (.xfer g) s = .next u ∧ u = { t with cmd := u.cmd })

/-- R33: while BUSY = 1 every command word and every host write to a listed register is ignored: nothing
changes, not even CMD, and nothing is queued. A read of STAT returns the flags; a read of any other listed
register returns a value the spec does not state and changes no register of the block (log 8). -/
def Obligations.HostAccessWhileBusy : Prop :=
  ∀ s : State, s.busy = true →
    (∀ w : Word, exec (decodeWord w) s = .next s) ∧
    (∀ offset v rest, s.inputs = .write offset v :: rest → ListedOffset s.cfg offset →
      step s = .next { s with inputs := rest }) ∧
    (∀ rest, s.inputs = .read 0x00C :: rest →
      ∃ w, step s = .next { s with rdata := w, inputs := rest } ∧
        w.toNat = s.ok.toNat + 2 + 4 * statusNumber s.status + 32 * phaseNumber s.phase) ∧
    (∀ offset rest, s.inputs = .read offset :: rest → ListedOffset s.cfg offset → offset ≠ 0x00C →
      ∃ w, step s = .next { s with rdata := w, draws := s.draws + 1, inputs := rest })

/-! The exchange: the transport's primitives, FRAME at TX, the flush, REPLY at RX. -/

/-- R51, R53, R54, R55: what `TxWrite`, and `RxRead` of n bytes, answer and do to the streams under every draw
of the transport, and that without a connection they fault and move nothing; `TxFlush` moves no stream (R52). That a
faulting read leaves RXQ and that a read of no bytes never faults are the spec's own choice (D11, D15; log 17), that a
fault at the flush or the read may drop the connection is log 16. -/
def Obligations.PrimitivesMoveTheStreamsAsStated : Prop :=
  (∀ (s : State) (bytes : List Byte) (d : Draw) (rest : List Draw), s.conn = true → s.answers = d :: rest →
    (d.fault = false →
      txWrite bytes s = (true, { s with txs := s.txs ++ bytes, answers := rest }) ∧
      txFlush s = (true, { s with answers := rest }) ∧
      (∀ n, 0 < n → rxRead n s =
        (some (s.rxq.take (min n d.got)), { s with rxq := s.rxq.drop (min n d.got), answers := rest }))) ∧
    (d.fault = true →
      txWrite bytes s = (false, { s with txs := s.txs ++ bytes.take d.sent, conn := !d.drop, answers := rest }) ∧
      txFlush s = (false, { s with conn := !d.drop, answers := rest }) ∧
      (∀ n, 0 < n → rxRead n s = (none, { s with conn := !d.drop, answers := rest })))) ∧
  (∀ (s : State) (bytes : List Byte), s.conn = false →
    txWrite bytes s = (false, s) ∧ txFlush s = (false, s) ∧ (∀ n, 0 < n → rxRead n s = (none, s))) ∧
  (∀ s : State, rxRead 0 s = (some [], s))

/-- R150: `fail(code)` writes a zero-filled reply of the expected length, for XFER zero values, the flags and
the sequencer, and writes nothing else. -/
def Obligations.FailureEntryWritesOnlyThese : Prop :=
  ∀ (code : Status) (s : State), s.wf = true → s.busy = true → code ≠ .ok →
    Failed code s (fail code s) ∧
    fail code s =
      { s with
        rbuf := (fail code s).rbuf, rlen := (fail code s).rlen, val := (fail code s).val
        ok := false, status := code, busy := false, phase := .idle }

/-- R51 and R121 (TX, ok): with the transport connected and answering ok, the whole frame is appended to TXS
in order and the sequencer goes to FLUSH. -/
def Obligations.FrameGoesOutWhole : Prop :=
  ∀ (opc ck : Byte) (p : List Byte) (s : State) (d : Draw) (rest : List Draw),
    s.phase = .tx → p.length ≤ 255 → s.conn = true → s.answers = d :: rest → d.fault = false →
    exec (.frame opc p ck) s =
      .next { s with
        txs := s.txs ++ ([s.cfg.startByte, opc, BitVec.ofNat 8 p.length] ++ p ++ [ck])
        answers := rest
        busy := true
        phase := .flush }

/-- R51, R55, R121 (TX, fault) and R150: a fault at the write leaves the first bytes of the frame, as many as
the transport says, on the wire, and the call fails with ST_TRANSPORT_FAULT; nothing is read, so RXQ stays, which is
the spec's own choice (D13; log 17). Not connected, no byte is written. FRAME is taken as the TX step (log 7). -/
def Obligations.FaultAtTheWriteFailsTheCall : Prop :=
  ∀ (opc ck : Byte) (p : List Byte) (s : State), s.wf = true → s.phase = .tx → p.length ≤ 255 →
    (∀ d rest, s.conn = true → s.answers = d :: rest → d.fault = true →
      ∃ t, exec (.frame opc p ck) s = .next t ∧ Failed .transportFault s t ∧
        t.txs = s.txs ++ ([s.cfg.startByte, opc, BitVec.ofNat 8 p.length] ++ p ++ [ck]).take d.sent ∧
        t.conn = !d.drop ∧ t.answers = rest ∧
        t = { s with
          txs := t.txs, conn := t.conn, answers := t.answers, rbuf := t.rbuf, rlen := t.rlen
          val := t.val, ok := t.ok, status := t.status, busy := t.busy, phase := t.phase }) ∧
    (s.conn = false →
      ∃ t, exec (.frame opc p ck) s = .next t ∧ Failed .transportFault s t ∧
        t = { s with
          rbuf := t.rbuf, rlen := t.rlen, val := t.val, ok := t.ok, status := t.status
          busy := t.busy, phase := t.phase })

/-- R104 and R146: a payload above 255 bytes is refused by name where a frame of it would be sent. -/
def Obligations.OversizedFrameIsRefused : Prop :=
  ∀ (opc ck : Byte) (p : List Byte) (s : State), s.phase = .tx → 255 < p.length →
    exec (.frame opc p ck) s = .refused .payloadTooLong

/-- R52 and R121 (FLUSH): an ok flush changes neither stream and the sequencer goes to RX; a fault, or no
connection, fails the call with ST_TRANSPORT_FAULT and no read follows, so RXQ stays: the spec's own choice (D13;
log 17). That the fault may drop the connection is log 16. -/
def Obligations.FlushOrdersTheWriteBeforeTheRead : Prop :=
  ∀ s : State, s.wf = true → s.inputs = [] → s.phase = .flush →
    (∀ d rest, s.conn = true → s.answers = d :: rest → d.fault = false →
      step s = .next { s with answers := rest, busy := true, phase := .rx }) ∧
    (∀ d rest, s.conn = true → s.answers = d :: rest → d.fault = true →
      ∃ t, step s = .next t ∧ Failed .transportFault s t ∧ t.conn = !d.drop ∧ t.answers = rest ∧
        t = { s with
          conn := t.conn, answers := t.answers, rbuf := t.rbuf, rlen := t.rlen, val := t.val, ok := t.ok
          status := t.status, busy := t.busy, phase := t.phase }) ∧
    (s.conn = false →
      ∃ t, step s = .next t ∧ Failed .transportFault s t ∧
        t = { s with
          rbuf := t.rbuf, rlen := t.rlen, val := t.val, ok := t.ok, status := t.status
          busy := t.busy, phase := t.phase })

/-- R120 step 4 and R126: a reply of exactly the awaited size is accepted whatever it holds (R125): its bytes
in RBUF, for XFER its values in VAL, OK = 1, back to IDLE. -/
def Obligations.FullReplyIsAccepted : Prop :=
  ∀ (r : List Byte) (s : State), s.wf = true → s.phase = .rx → r.length = awaited s →
    ∃ t, exec (.reply r) s = .next t ∧ Succeeded r s t ∧
      t = { s with
        rbuf := t.rbuf, rlen := t.rlen, val := t.val, ok := t.ok, status := t.status
        busy := t.busy, phase := t.phase }

/-- R141 and R150: fewer bytes than awaited fail the exchange with ST_SHORT_READ; a zero-filled reply of the
expected length, for XFER all values zero, none of the bytes that came. -/
def Obligations.ShortReplyFailsWithZeros : Prop :=
  ∀ (r : List Byte) (s : State), s.wf = true → s.phase = .rx → r.length < awaited s →
    ∃ t, exec (.reply r) s = .next t ∧ Failed .shortRead s t ∧
      t = { s with
        rbuf := t.rbuf, rlen := t.rlen, val := t.val, ok := t.ok, status := t.status
        busy := t.busy, phase := t.phase }

/-- R53, R54, R55 and R121 (RX): the RX step consumes the first bytes of RXQ, at most as many as awaited and
as the transport answers; a full read succeeds with them, a short read discards them, a fault or no
connection consumes none; a read of no bytes succeeds whatever the transport does. That a faulting read takes none and
that a read of no bytes never fails are the spec's own choice (D11, D15; log 17), that a fault may drop the connection
is log 16. -/
def Obligations.ReadTakesTheHeadOfTheReceiveStream : Prop :=
  ∀ s : State, s.wf = true → s.inputs = [] → s.phase = .rx →
    (∀ d rest, 0 < awaited s → s.conn = true → s.answers = d :: rest → d.fault = false →
      ∃ t, step s = .next t ∧ t.rxq = s.rxq.drop (min (awaited s) d.got) ∧ t.answers = rest ∧
        (awaited s ≤ d.got → awaited s ≤ s.rxq.length →
          Succeeded (s.rxq.take (awaited s)) s t) ∧
        (d.got < awaited s ∨ s.rxq.length < awaited s → Failed .shortRead s t) ∧
        t = { s with
          rxq := t.rxq, answers := t.answers, rbuf := t.rbuf, rlen := t.rlen, val := t.val, ok := t.ok
          status := t.status, busy := t.busy, phase := t.phase }) ∧
    (∀ d rest, 0 < awaited s → s.conn = true → s.answers = d :: rest → d.fault = true →
      ∃ t, step s = .next t ∧ Failed .transportFault s t ∧ t.conn = !d.drop ∧ t.answers = rest ∧
        t = { s with
          conn := t.conn, answers := t.answers, rbuf := t.rbuf, rlen := t.rlen, val := t.val, ok := t.ok
          status := t.status, busy := t.busy, phase := t.phase }) ∧
    (0 < awaited s → s.conn = false →
      ∃ t, step s = .next t ∧ Failed .transportFault s t ∧
        t = { s with
          rbuf := t.rbuf, rlen := t.rlen, val := t.val, ok := t.ok, status := t.status
          busy := t.busy, phase := t.phase }) ∧
    (awaited s = 0 →
      ∃ t, step s = .next t ∧ Succeeded [] s t ∧
        t = { s with
          rlen := t.rlen, ok := t.ok, status := t.status, busy := t.busy, phase := t.phase })

/-! The step. -/

/-- A step runs the decoded instruction: a host write to CMD that lands with the block idle is `exec` of what
its bytes decode to, with the move taken off the list; at TX it is `exec` of the frame in FRM[0..FLEN-1]; at
RX it is `exec` of the reply the read answered, after the read; the block's turn may be asked for by `run`
or be taken when no move is listed. -/
def Obligations.StepRunsTheDecodedInstruction : Prop :=
  (∀ (s : State) (w : Word) (i : Instr) (rest : List Input),
    s.inputs = .write 0x000 w :: rest → s.busy = false → decode s.cfg .command (littleEndian w) = .ok i →
    step s = exec i { s with inputs := rest }) ∧
  (∀ (s : State) (i : Instr), s.inputs = [] → s.phase = .tx →
    decode s.cfg .request (s.frm.take s.flen.toNat) = .ok i → step s = exec i s) ∧
  (∀ (s t : State) (r : List Byte), s.inputs = [] → s.phase = .rx →
    rxRead (awaited s) s = (some r, t) → step s = exec (.reply r) t) ∧
  (∀ (s : State) (rest : List Input), s.inputs = .run :: rest →
    step s = advance { s with inputs := rest }) ∧
  (∀ s : State, s.inputs = [] → step s = advance s)

/-- R121: the only changes of PHASE a step makes are the arrows of the table (and a reset's return to IDLE,
R171): no loop, no retry, none from RX back to TX. -/
def Obligations.SequencerTakesOnlyTheListedArrows : Prop :=
  ∀ s t : State, s.wf = true → step s = .next t → s.phase ≠ t.phase →
    (s.phase = .idle ∧ t.phase = .tx ∧ ∃ w rest, s.inputs = .write 0x000 w :: rest ∧
      (w.toNat % 8 = 4 ∨ w.toNat % 8 = 5) ∧ ¬ RefusedWord s w) ∨
    (s.phase = .tx ∧ t.phase = .flush) ∨ (s.phase = .flush ∧ t.phase = .rx) ∨ t.phase = .idle

/-- R29: only a CALL or an XFER raises BUSY. -/
def Obligations.OnlyCallAndXferRaiseBusy : Prop :=
  ∀ (i : Instr) (s t : State), s.wf = true → exec i s = .next t → s.busy = false → t.busy = true →
    ∃ f, i = .call f ∨ i = .xfer f

/-- The invariant every step keeps: the register files have their lengths, FLEN is at most 259, `OK = 1` iff
`STATUS = 0` (R28), `BUSY = 0` iff `PHASE = IDLE` (R35), FRM holds one frame of this block with the right
length and checksum or nothing (R86), and while BUSY = 1 CMD spells the exchange in flight. -/
def Obligations.EveryStepKeepsTheInvariant : Prop :=
  ∀ s t : State, s.wf = true → step s = .next t → t.wf = true

/-- The invariant holds at the start of a run, under all parameters. -/
def Obligations.StartOfARunMeetsTheInvariant : Prop :=
  (∀ c : Config, (State.initial c).wf = true) ∧ State.reset.wf = true

/-- No state that meets the invariant faults: whatever lands, the step answers a next state or a refusal, and
it is refused only on an access outside the register map, a write to a read-only register, or a connect or
disconnect while BUSY = 1 (R32, R188; log 9, log 10). That an operation on operands nothing has written does not fault
is the model's choice, where R42 and U16 would have a model fault (log 2). -/
def Obligations.StepsStopOnlyOnAHostBreach : Prop :=
  ∀ s : State, s.wf = true →
    (∃ t, step s = .next t) ∨
    (∃ offset v rest, s.inputs = .write offset v :: rest ∧ ¬ ListedOffset s.cfg offset ∧
      step s = .refused (.noSuchRegister offset)) ∨
    (∃ offset rest, s.inputs = .read offset :: rest ∧ ¬ ListedOffset s.cfg offset ∧
      step s = .refused (.noSuchRegister offset)) ∨
    (∃ offset v rest, s.inputs = .write offset v :: rest ∧ ReadOnlyOffset offset ∧ s.busy = false ∧
      step s = .refused (.readOnlyRegister offset)) ∨
    (∃ l rest, s.inputs = .connect l :: rest ∧ s.busy = true ∧ step s = .refused .linkMovedWhileBusy) ∨
    (∃ rest, s.inputs = .disconnect :: rest ∧ s.busy = true ∧ step s = .refused .linkMovedWhileBusy)

/-- R36 and R37: no step writes START_BYTE, MAX_VALUES or the registry. -/
def Obligations.ParametersNeverChange : Prop :=
  ∀ s t : State, step s = .next t → t.cfg = s.cfg

/-- R38: TXS is a history, append-only, and it grows only at TX. -/
def Obligations.TransmitHistoryOnlyGrows : Prop :=
  ∀ s t : State, step s = .next t →
    ∃ sent, t.txs = s.txs ++ sent ∧ (sent ≠ [] → s.phase = .tx)

/-- R39 and R69: RXQ loses bytes from its front only, only at RX (none after a failed write or flush, the spec's own
choice: D13, log 17) and never more than awaited; it gains only what arrives. -/
def Obligations.ReceiveStreamIsConsumedFromTheFront : Prop :=
  ∀ s t : State, s.wf = true → step s = .next t →
    ∃ k arrived, t.rxq = s.rxq.drop k ++ arrived ∧
      (k ≠ 0 → s.phase = .rx ∧ k ≤ awaited s) ∧
      (arrived ≠ [] → ∃ rest, s.inputs = .arrive arrived :: rest)

/-! Whole exchanges. -/

/-- 41_dispatcher section 1: CALL runs its four steps under every answer of the transport: four steps of the machine
after the host's write to CMD it has ended as `ExchangeEnds` says, which gives the streams, the connection, the reply,
the flags and the answers left over, with its frame in FRM and nothing else changed. The clauses of `ExchangeEnds` that
rest on log 16 and log 17 stand there. -/
def Obligations.CallRunsTheFourSteps : Prop :=
  ∀ (s : State) (f : CmdFields) (d1 d2 d3 : Draw) (rest : List Draw),
    s.wf = true → s.busy = false → operandsLoaded (.call f) s = true → s.exp.toNat ≤ s.cfg.rxMax →
    s.inputs = [.write 0x000 (commandWord 0 4 f)] → s.answers = d1 :: d2 :: d3 :: rest →
    ∃ t, runFrom 4 s = .next t ∧ t.cmd = commandWord 0 4 f ∧
      HoldsFrame (wireFrame s.cfg f.opc (firstBits s.plen.toNat s.pay)) t ∧
      ExchangeEnds (wireFrame s.cfg f.opc (firstBits s.plen.toNat s.pay)) d1 d2 d3
        { s with cmd := commandWord 0 4 f } t ∧
      t = { s with
        cmd := t.cmd, frm := t.frm, flen := t.flen, txs := t.txs, rxq := t.rxq, conn := t.conn, rbuf := t.rbuf
        rlen := t.rlen, ok := t.ok, status := t.status, answers := t.answers, inputs := [] }

/-- 41_dispatcher section 2: XFER is CALL with the packed payload and a reply of `4*AR` bytes, decoded into
VAL[0..AR-1] on a full read and zeroed on a failure; the arguments are read at issue and the other values keep theirs.
The clauses of `ExchangeEnds` that rest on log 16 and log 17 stand there. -/
def Obligations.XferRunsTheFourSteps : Prop :=
  ∀ (s : State) (f : CmdFields) (d1 d2 d3 : Draw) (rest : List Draw),
    s.wf = true → s.busy = false → operandsLoaded (.xfer f) s = true →
    f.nv.toNat ≤ s.cfg.maxValues.val → f.ar.toNat ≤ s.cfg.maxValues.val →
    s.inputs = [.write 0x000 (commandWord 0 5 f)] → s.answers = d1 :: d2 :: d3 :: rest →
    ∃ t, runFrom 4 s = .next t ∧ t.cmd = commandWord 0 5 f ∧ t.rlen.toNat = 4 * f.ar.toNat ∧
      HoldsFrame (wireFrame s.cfg f.opc (floatPayload f s)) t ∧
      ExchangeEnds (wireFrame s.cfg f.opc (floatPayload f s)) d1 d2 d3
        { s with cmd := commandWord 0 5 f } t ∧
      t.val.drop f.ar.toNat = s.val.drop f.ar.toNat ∧
      t = { s with
        cmd := t.cmd, frm := t.frm, flen := t.flen, txs := t.txs, rxq := t.rxq, conn := t.conn, rbuf := t.rbuf
        rlen := t.rlen, val := t.val, ok := t.ok, status := t.status, answers := t.answers, inputs := [] }

/-- R185 and R122: whatever the transport answers, an exchange in flight is back at IDLE after at most three
steps of the block, and between its issue and its end TXS gains at most its one frame. -/
def Obligations.EveryExchangeEndsWithinThreeSteps : Prop :=
  ∀ s : State, s.wf = true → s.inputs = [] → s.busy = true →
    ∃ t, runFrom 3 s = .next t ∧ t.busy = false ∧ t.phase = .idle ∧
      (∃ m, t.txs = s.txs ++ (if s.phase = .tx then (s.frm.take s.flen.toNat).take m else [])) ∧
      (∃ k, k ≤ awaited s ∧ t.rxq = s.rxq.drop k) ∧
      t.frm = s.frm ∧ t.flen = s.flen ∧ t.cmd = s.cmd ∧ t.pay = s.pay ∧ t.plen = s.plen ∧ t.exp = s.exp

/-- R172 and R55: on a transport that is not connected, a CALL or XFER fails with
ST_TRANSPORT_FAULT after its issue, and no byte is written or read. No premise asks for loaded operands: that the issue
completes on unwritten ones, where R42 would have a model fault, is the model's choice (log 2). -/
def Obligations.UnconnectedCallFails : Prop :=
  ∀ (s : State) (w : Word), s.wf = true → s.busy = false → s.conn = false →
    s.inputs = [.write 0x000 w] → (w.toNat % 8 = 4 ∨ w.toNat % 8 = 5) → ¬ RefusedWord s w →
    ∃ t, runFrom 2 s = .next t ∧ Failed .transportFault { s with cmd := w } t ∧
      t.txs = s.txs ∧ t.rxq = s.rxq ∧ t.conn = false ∧ t.answers = s.answers

/-- R128: XFER shows the wire, VAL, RBUF, RLEN and OK what the host's own ENCF, copy of the payload, CALL and
DECF (or zeroing of VAL after a failure) show them. FRM agrees whole: that its bytes at FLEN and above, which R27 calls
unspecified, agree too is the model's choice of log 26, and that no premise asks for loaded operands is log 2. -/
def Obligations.XferIsEncfCallDecf : Prop :=
  ∀ (s a b1 b2 b3 : State) (f : CmdFields),
    s.wf = true → s.busy = false → s.inputs = [] →
    f.nv.toNat ≤ s.cfg.maxValues.val → f.ar.toNat ≤ s.cfg.maxValues.val →
    exec (.xfer f) s = .next a →
    exec (.encf f) s = .next b1 →
    b2 = { b1 with
      pay := ((b1.frm.drop 3).take (b1.flen.toNat - 4)).map Slot.put ++ b1.pay.drop (b1.flen.toNat - 4)
      plen := BitVec.ofNat 8 (b1.flen.toNat - 4)
      exp := BitVec.ofNat 8 (4 * f.ar.toNat) } →
    exec (.call f) b2 = .next b3 →
    ∃ t u v, runFrom 3 a = .next t ∧ runFrom 3 b3 = .next u ∧
      (u.ok = true → exec (.decf f) u = .next v) ∧
      (u.ok = false →
        v = { u with val := List.replicate f.ar.toNat (Slot.put 0) ++ u.val.drop f.ar.toNat }) ∧
      t.txs = v.txs ∧ t.rxq = v.rxq ∧ t.conn = v.conn ∧ t.val = v.val ∧ t.rbuf = v.rbuf ∧
      t.rlen = v.rlen ∧ t.ok = v.ok ∧ t.frm = v.frm ∧ t.flen = v.flen

/-- R40 for the codec: what ENCODE, ENCF and DECF leave depends on their own operands and the parameters alone,
not on any flag, frame or value left by an earlier operation. The premise keeps all parameters equal, START_BYTE among
them. That they complete on unwritten operands too, where R42 would have a model fault, is the model's choice
(log 2). -/
def Obligations.CodecResultsDependOnTheirOperandsOnly : Prop :=
  ∀ (f : CmdFields) (a b : State), a.wf = true → b.wf = true → a.busy = false → b.busy = false →
    a.cfg = b.cfg →
    (a.plen = b.plen → firstBits a.plen.toNat a.pay = firstBits a.plen.toNat b.pay →
      ∃ t u, exec (.encode f) a = .next t ∧ exec (.encode f) b = .next u ∧
        t.frm.take t.flen.toNat = u.frm.take u.flen.toNat ∧ t.flen = u.flen ∧ t.ok = u.ok ∧
        t.status = u.status) ∧
    (f.nv.toNat ≤ a.cfg.maxValues.val → firstBits f.nv.toNat a.val = firstBits f.nv.toNat b.val →
      ∃ t u, exec (.encf f) a = .next t ∧ exec (.encf f) b = .next u ∧
        t.frm.take t.flen.toNat = u.frm.take u.flen.toNat ∧ t.flen = u.flen ∧ t.ok = u.ok ∧
        t.status = u.status) ∧
    (f.ar.toNat ≤ a.cfg.maxValues.val → a.rlen = b.rlen →
      firstBits a.rlen.toNat a.rbuf = firstBits a.rlen.toNat b.rbuf →
      ∃ t u, exec (.decf f) a = .next t ∧ exec (.decf f) b = .next u ∧
        t.val.take f.ar.toNat = u.val.take f.ar.toNat ∧ t.ok = u.ok ∧ t.status = u.status)

/-- R40 for the exchange: what a CALL or XFER appends to the wire and leaves in RBUF, RLEN, OK, STATUS and,
for XFER, VAL[0..AR-1] depends on its operands, the parameters, and what the transport holds and answers;
on nothing an earlier operation left. That they run to their end on unwritten operands too, where R42 would have a model
fault, is the model's choice (log 2). -/
def Obligations.ExchangeResultsDependOnOperandsAndTransportOnly : Prop :=
  ∀ (w : Word) (a b : State), a.wf = true → b.wf = true → a.busy = false → b.busy = false →
    a.cfg = b.cfg → a.inputs = [.write 0x000 w] → b.inputs = [.write 0x000 w] →
    a.conn = b.conn → a.answers = b.answers → a.draws = b.draws → a.rxq = b.rxq →
    ¬ RefusedWord a w →
    ((w.toNat % 8 = 4 ∧ a.exp = b.exp ∧ a.plen = b.plen ∧
        firstBits a.plen.toNat a.pay = firstBits a.plen.toNat b.pay) ∨
      (w.toNat % 8 = 5 ∧ firstBits (w.toNat / 16 % 16) a.val = firstBits (w.toNat / 16 % 16) b.val)) →
    ∃ t u gained, runFrom 4 a = .next t ∧ runFrom 4 b = .next u ∧
      t.txs = a.txs ++ gained ∧ u.txs = b.txs ++ gained ∧ t.rxq = u.rxq ∧ t.conn = u.conn ∧
      t.rlen = u.rlen ∧ t.rbuf.take t.rlen.toNat = u.rbuf.take u.rlen.toNat ∧
      t.ok = u.ok ∧ t.status = u.status ∧
      (w.toNat % 8 = 5 → t.val.take (w.toNat / 2 ^ 24 % 16) = u.val.take (w.toNat / 2 ^ 24 % 16))

/-- R174: after a short read that empties RXQ, bytes that come late are the next transfer's reply: it ends
with OK = 1 and the late bytes' values, and what it does not take waits for the transfer after it. That both transfers
complete with arguments nothing has written, where R42 would have a model fault, is the model's choice (log 2). -/
def Obligations.LateBytesBecomeTheNextReply : Prop :=
  ∀ (s : State) (f g : CmdFields) (late : List Byte) (d1 d2 d3 d4 d5 d6 : Draw) (rest : List Draw),
    s.wf = true → s.busy = false → s.conn = true →
    s.inputs = [.write 0x000 (commandWord 0 5 f), .run, .run, .run, .arrive late,
      .write 0x000 (commandWord 0 5 g)] →
    f.nv.toNat ≤ s.cfg.maxValues.val → f.ar.toNat ≤ s.cfg.maxValues.val →
    g.nv.toNat ≤ s.cfg.maxValues.val → g.ar.toNat ≤ s.cfg.maxValues.val → g.ar ≠ 0 →
    s.answers = d1 :: d2 :: d3 :: d4 :: d5 :: d6 :: rest →
    (∀ d ∈ [d1, d2, d3, d4, d5, d6], d.fault = false) →
    s.rxq.length < 4 * f.ar.toNat → s.rxq.length ≤ d3.got →
    4 * g.ar.toNat ≤ late.length → 4 * g.ar.toNat ≤ d6.got →
    ∃ m t, runFrom 4 s = .next m ∧ m.ok = false ∧ m.status = .shortRead ∧ m.rxq = [] ∧
      runFrom 9 s = .next t ∧ t.ok = true ∧ t.status = .ok ∧
      firstBits g.ar.toNat t.val = valuesIn late g.ar.toNat ∧ t.rxq = late.drop (4 * g.ar.toNat)

/-! The host's side. -/

/-- R41: the values reset leaves in the registers it names, and what STAT then reads; at the start of a run TXS
is empty and CONN false; at a later reset the two streams and CONN stay as they are. -/
def Obligations.ResetValuesAreThoseOfTheTable : Prop :=
  (∀ c : Config, (State.initial c).cfg = c ∧ (State.initial c).txs = [] ∧ (State.initial c).conn = false ∧
    (State.initial c).stat = 0x00000010) ∧
  (∀ (s u : State), u = State.initial s.cfg ∨ u = resetBlock s →
    u.cfg = s.cfg ∧ u.cmd = 0 ∧ u.plen = 0 ∧ u.exp = 0 ∧ u.rlen = 0 ∧ u.flen = 0 ∧ u.ok = false ∧
    u.busy = false ∧ u.status = .refused ∧ statusNumber u.status = 4 ∧ u.phase = .idle) ∧
  (∀ s : State, (resetBlock s).txs = s.txs ∧ (resetBlock s).rxq = s.rxq ∧ (resetBlock s).conn = s.conn) ∧
  State.reset = State.initial .standard ∧ Config.standard.startByte = 0xBB ∧
  Config.standard.maxValues = 9 ∧ Config.standard.rxMax = 36

/-- R170 and R171: the reset input, at any time, busy or not, puts the registers R41 names at their reset values
and the sequencer at IDLE, leaves no value in the others that counts as written (log 3), and touches neither
stream, nor the connection, nor the parameters. -/
def Obligations.ResetAbandonsTheOperation : Prop :=
  ∀ (s : State) (rest : List Input), s.inputs = .reset :: rest →
    ∃ t, step s = .next t ∧ t.cmd = 0 ∧ t.plen = 0 ∧ t.exp = 0 ∧ t.rlen = 0 ∧ t.flen = 0 ∧ t.ok = false ∧
      t.busy = false ∧ t.status = .refused ∧ t.phase = .idle ∧
      (∀ x ∈ t.val, x.written = false) ∧ (∀ x ∈ t.pay, x.written = false) ∧
      (∀ x ∈ t.rbuf, x.written = false) ∧
      t.cfg = s.cfg ∧ t.txs = s.txs ∧ t.rxq = s.rxq ∧ t.conn = s.conn ∧ t.link = s.link ∧
      t.answers = s.answers ∧ t.draws = s.draws ∧ t.rdata = s.rdata ∧ t.inputs = rest

/-- R148 and R38: bytes that arrive join the end of RXQ and raise nothing, in any phase. -/
def Obligations.ArrivingBytesRaiseNothing : Prop :=
  ∀ (s : State) (bytes : List Byte) (rest : List Input), s.inputs = .arrive bytes :: rest →
    step s = .next { s with rxq := s.rxq ++ bytes, inputs := rest }

/-- R135: with BUSY = 0 connect sets CONN and fixes T_READ and disconnect clears CONN; that nothing else changes, TXS
and RXQ among it, is the model's choice (log 27). While BUSY = 1 the host must do neither, and the model refuses it
(log 10). -/
def Obligations.LinkMovesOnlyWhileIdle : Prop :=
  ∀ (s : State) (l : Link) (rest : List Input),
    (s.inputs = .connect l :: rest → s.busy = false →
      step s = .next { s with conn := true, link := some l, inputs := rest }) ∧
    (s.inputs = .disconnect :: rest → s.busy = false →
      step s = .next { s with conn := false, inputs := rest }) ∧
    (s.inputs = .connect l :: rest → s.busy = true → step s = .refused .linkMovedWhileBusy) ∧
    (s.inputs = .disconnect :: rest → s.busy = true → step s = .refused .linkMovedWhileBusy)

/-- R31 and R33: a host read of STAT, busy or not, returns OK in bit 0, BUSY in bit 1, STATUS in bits 4:2,
PHASE in bits 6:5 and zeros above. -/
def Obligations.StatReadsTheFlags : Prop :=
  ∀ (s : State) (rest : List Input), s.inputs = .read 0x00C :: rest →
    ∃ t, step s = .next t ∧
      t.rdata.toNat = s.ok.toNat + 2 * s.busy.toNat + 4 * statusNumber s.status +
        32 * phaseNumber s.phase ∧
      t = { s with rdata := t.rdata, inputs := rest }

/-- R32: with BUSY = 0 a register the host writes reads back what it wrote, a byte register its low 8 bits,
and no other register of the block changes. -/
def Obligations.HostReadsBackWhatItWrote : Prop :=
  ∀ (s : State) (v : Word) (offset : Nat), s.wf = true → s.busy = false →
    s.inputs = [.write offset v, .read offset] →
    (∀ i, i < s.cfg.maxValues.val → i < 48 → offset = 0x040 + 4 * i →
      ∃ t, runFrom 2 s = .next t ∧ t.rdata = v ∧ t.val[i]? = some (Slot.put v) ∧
        (∀ j, j ≠ i → t.val[j]? = s.val[j]?) ∧
        t = { s with val := t.val, rdata := t.rdata, inputs := [] }) ∧
    (∀ i, i < 255 → offset = 0x100 + i →
      ∃ t, runFrom 2 s = .next t ∧ t.rdata.toNat = v.toNat % 256 ∧
        (∀ j, j ≠ i → t.pay[j]? = s.pay[j]?) ∧
        t = { s with pay := t.pay, rdata := t.rdata, inputs := [] }) ∧
    (∀ i, i < s.cfg.rxMax → offset = 0x200 + i →
      ∃ t, runFrom 2 s = .next t ∧ t.rdata.toNat = v.toNat % 256 ∧
        (∀ j, j ≠ i → t.rbuf[j]? = s.rbuf[j]?) ∧
        t = { s with rbuf := t.rbuf, rdata := t.rdata, inputs := [] }) ∧
    (offset = 0x004 → ∃ t, runFrom 2 s = .next t ∧ t.rdata.toNat = v.toNat % 256 ∧
      t.plen.toNat = v.toNat % 256 ∧ t = { s with plen := t.plen, rdata := t.rdata, inputs := [] }) ∧
    (offset = 0x008 → ∃ t, runFrom 2 s = .next t ∧ t.rdata.toNat = v.toNat % 256 ∧
      t.exp.toNat = v.toNat % 256 ∧ t = { s with exp := t.exp, rdata := t.rdata, inputs := [] }) ∧
    (offset = 0x010 → ∃ t, runFrom 2 s = .next t ∧ t.rdata.toNat = v.toNat % 256 ∧
      t.rlen.toNat = v.toNat % 256 ∧ t = { s with rlen := t.rlen, rdata := t.rdata, inputs := [] })

/-- R27 and R32: with BUSY = 0 the host reads the frame's bytes at FRM below FLEN, the length at FLEN, and
the word it issued at CMD. -/
def Obligations.HostReadsTheFrame : Prop :=
  ∀ (s : State) (offset : Nat) (rest : List Input), s.wf = true → s.busy = false →
    s.inputs = .read offset :: rest →
    (∀ i b, i < s.flen.toNat → s.frm[i]? = some b → offset = 0x300 + i →
      step s = .next { s with rdata := b.setWidth 32, inputs := rest }) ∧
    (offset = 0x014 → step s = .next { s with rdata := s.flen.setWidth 32, inputs := rest }) ∧
    (offset = 0x000 → step s = .next { s with rdata := s.cmd, inputs := rest })

/-- R42 and R27: with BUSY = 0 a host read of a register nothing has written, or of FRM at FLEN and above,
completes with a value the spec does not state; only what the host got back changes (log 8). -/
def Obligations.UnspecifiedReadsStillComplete : Prop :=
  ∀ (s : State) (offset : Nat) (rest : List Input), s.wf = true → s.busy = false →
    s.inputs = .read offset :: rest →
    ((∃ i, i < s.cfg.maxValues.val ∧ i < 48 ∧ offset = 0x040 + 4 * i ∧
        (s.val[i]?).map Slot.written = some false) ∨
      (∃ i, i < 255 ∧ offset = 0x100 + i ∧ (s.pay[i]?).map Slot.written = some false) ∨
      (∃ i, i < s.cfg.rxMax ∧ offset = 0x200 + i ∧ (s.rbuf[i]?).map Slot.written = some false) ∨
      (∃ i, i < 259 ∧ offset = 0x300 + i ∧ s.flen.toNat ≤ i)) →
    ∃ w, step s = .next { s with rdata := w, draws := s.draws + 1, inputs := rest }

/-- R32 and U18: an access outside the register map is refused by name, and with BUSY = 0 so is a write to
STAT, FLEN or FRM, which the map gives no write access (log 9). -/
def Obligations.UnlistedAccessesAreRefused : Prop :=
  ∀ (s : State) (offset : Nat) (v : Word) (rest : List Input),
    (¬ ListedOffset s.cfg offset →
      (s.inputs = .write offset v :: rest → step s = .refused (.noSuchRegister offset)) ∧
      (s.inputs = .read offset :: rest → step s = .refused (.noSuchRegister offset))) ∧
    (ReadOnlyOffset offset → s.busy = false → s.inputs = .write offset v :: rest →
      step s = .refused (.readOnlyRegister offset))

/-- R42 and R173 (log 2, log 3): an operation whose operands the host has loaded since reset leaves the same
results whatever the unwritten registers hold: the frame of ENCODE, ENCF and the issue of CALL and XFER, the values
and flags of DECF, on two states that agree on every written register. -/
def Obligations.LoadedOperandsMakeUnwrittenRegistersIrrelevant : Prop :=
  ∀ (f : CmdFields) (a b : State), a.wf = true → b.wf = true → a.busy = false → b.busy = false →
    a.cfg = b.cfg → a.plen = b.plen → a.exp = b.exp → a.rlen = b.rlen →
    (∀ (k : Nat) (x : Slot 8), a.pay[k]? = some x → x.written = true → b.pay[k]? = some x) →
    (∀ (k : Nat) (x : Slot 32), a.val[k]? = some x → x.written = true → b.val[k]? = some x) →
    (∀ (k : Nat) (x : Slot 8), a.rbuf[k]? = some x → x.written = true → b.rbuf[k]? = some x) →
    (operandsLoaded (.encode f) a = true →
      ∃ t u, exec (.encode f) a = .next t ∧ exec (.encode f) b = .next u ∧
        t.frm.take t.flen.toNat = u.frm.take u.flen.toNat ∧ t.flen = u.flen) ∧
    (operandsLoaded (.encf f) a = true → f.nv.toNat ≤ a.cfg.maxValues.val →
      ∃ t u, exec (.encf f) a = .next t ∧ exec (.encf f) b = .next u ∧
        t.frm.take t.flen.toNat = u.frm.take u.flen.toNat ∧ t.flen = u.flen) ∧
    (operandsLoaded (.decf f) a = true → f.ar.toNat ≤ a.cfg.maxValues.val →
      ∃ t u, exec (.decf f) a = .next t ∧ exec (.decf f) b = .next u ∧
        t.val.take f.ar.toNat = u.val.take f.ar.toNat ∧ t.ok = u.ok ∧ t.status = u.status) ∧
    (operandsLoaded (.call f) a = true → a.exp.toNat ≤ a.cfg.rxMax →
      ∃ t u, exec (.call f) a = .next t ∧ exec (.call f) b = .next u ∧ t.phase = .tx ∧ u.phase = .tx ∧
        t.frm.take t.flen.toNat = u.frm.take u.flen.toNat ∧ t.flen = u.flen ∧ awaited t = awaited u) ∧
    (operandsLoaded (.xfer f) a = true → f.nv.toNat ≤ a.cfg.maxValues.val → f.ar.toNat ≤ a.cfg.maxValues.val →
      ∃ t u, exec (.xfer f) a = .next t ∧ exec (.xfer f) b = .next u ∧ t.phase = .tx ∧ u.phase = .tx ∧
        t.frm.take t.flen.toNat = u.frm.take u.flen.toNat ∧ t.flen = u.flen ∧ awaited t = awaited u)

/-- R37, R130 and R131: a use of a registry entry expands to one XFER of the entry's own opcode and arity and of the
shape it sends (for an entry without a shape the one the host chooses, log 28; the selector is the host's at each use,
log 33); issued with the block idle and its counts in range it goes to TX with that opcode in the frame and awaits four
bytes per value. A write has at least one value, and a pure read none. That the XFER is issued with values nothing has
written too, where R42 would have a model fault, is the model's choice (log 2). -/
def Obligations.RegistryEntryIsOneTransfer : Prop :=
  (∀ (e : RegistryEntry) (chosen p : Shape) (sel : Byte) (s : State), s.wf = true → s.busy = false →
    e.shape.getD chosen = p → (e.direction = .write → p.nv ≠ 0) → (e.direction = .read → p.nv = 0) →
    p.nv.toNat ≤ s.cfg.maxValues.val → e.replyArity.toNat ≤ s.cfg.maxValues.val →
    ∃ f t, transferOf e chosen sel = some (.xfer f) ∧
      f = { selen := p.selen, nv := p.nv, opc := e.opcode, sel := sel, ar := e.replyArity } ∧
      exec (.xfer f) s = .next t ∧ t.phase = .tx ∧ t.frm[1]? = some e.opcode ∧
      t.flen.toNat = 4 + p.selen.toNat + 4 * p.nv.toNat ∧
      awaited t = replyBytesOf e ∧ awaited t = 4 * e.replyArity.toNat) ∧
  (∀ (e : RegistryEntry) (chosen : Shape) (sel : Byte) (i : Instr), transferOf e chosen sel = some i →
    ∃ f, i = .xfer f ∧ (e.direction = .write → 1 ≤ f.nv.toNat) ∧ (e.direction = .read → f.nv.toNat = 0))

/-! The wire formats in the phases and sizes no step gives them, the end of a run, the host's duties. -/

/-- FRAME in any phase but TX and REPLY in any phase but RX change nothing (log 7); a REPLY at RX of more bytes than
awaited ends the exchange with the awaited ones, and the rest stay at the head of RXQ (log 23). -/
def Obligations.WireFormatsActOnlyInTheirPhase : Prop :=
  (∀ (opc ck : Byte) (p : List Byte) (s : State), s.phase ≠ .tx → exec (.frame opc p ck) s = .next s) ∧
  (∀ (r : List Byte) (s : State), s.phase ≠ .rx → exec (.reply r) s = .next s) ∧
  (∀ (r : List Byte) (s : State), s.wf = true → s.phase = .rx → awaited s < r.length →
    ∃ t, exec (.reply r) s = .next t ∧ Succeeded (r.take (awaited s)) s t ∧
      t.rxq = r.drop (awaited s) ++ s.rxq ∧
      t = { s with
        rxq := t.rxq, rbuf := t.rbuf, rlen := t.rlen, val := t.val, ok := t.ok, status := t.status
        busy := t.busy, phase := t.phase })

/-- R186 (log 30): a run is over when its last operation has completed, whatever other moves are still listed; and a
run of one operation, whatever word the host spells and whatever the transport answers, is over within four steps and
shows the bytes written and one result: OK, STATUS and the registers the operation's row of R34 marks as written. That
a word whose operands nothing has written completes too, where R42 would have a model fault, is the model's choice
(log 2). -/
def Obligations.OneOperationIsOverAndShowsItsRow : Prop :=
  (∀ s : State, s.wf = true →
    (s.runOver = true ↔ s.busy = false ∧ ∀ w, Input.write 0x000 w ∉ s.inputs)) ∧
  (∀ (s : State) (w : Word), s.wf = true → s.busy = false → s.inputs = [.write 0x000 w] →
    s.runOver = false ∧
    ∃ t, runFrom 4 s = .next t ∧ t.cmd = w ∧ t.runOver = true ∧
      observe 4 s = { sent := t.txs, results := [resultOf t] } ∧
      (RefusedWord s w →
        resultOf t = { ok := false, status := .refused, values := none, reply := none, frame := none }) ∧
      (¬ RefusedWord s w →
        resultOf t =
          { ok := t.ok
            status := t.status
            values :=
              if w.toNat % 8 = 3 ∨ w.toNat % 8 = 5 then some (firstBits (w.toNat / 2 ^ 24 % 16) t.val) else none
            reply := if w.toNat % 8 = 4 ∨ w.toNat % 8 = 5 then some (firstBits t.rlen.toNat t.rbuf) else none
            frame := if w.toNat % 8 = 3 then none else some (t.frm.take t.flen.toNat) }))

/-- R188: a run whose moves keep the host's duties is never stopped; with BUSY = 0 the host may spell any word that is
refused, with nothing loaded; it issues no other CALL or XFER before the first connect; and of VAL, RBUF and FRM it
reads only what the last operation wrote, whatever it has loaded into RLEN, EXP or CMD's operands since (log 31). -/
def Obligations.DutifulMovesAreNeverStopped : Prop :=
  (∀ (k : Nat) (last : Option OpResult) (s : State), s.wf = true → dutifulRun k last s = true →
    ∃ t, runFrom k s = .next t) ∧
  (∀ (s : State) (last : Option OpResult) (w : Word) (rest : List Input), s.inputs = .write 0x000 w :: rest →
    s.busy = false → RefusedWord s w → s.dutiful last = true) ∧
  (∀ (s : State) (last : Option OpResult) (w : Word) (rest : List Input), s.inputs = .write 0x000 w :: rest →
    s.link = none → (w.toNat % 8 = 4 ∨ w.toNat % 8 = 5) → ¬ RefusedWord s w → s.dutiful last = false) ∧
  (∀ (s : State) (last : Option OpResult) (rest : List Input) (offset i : Nat), s.inputs = .read offset :: rest →
    s.busy = false →
    (offset = 0x040 + 4 * i → i < s.cfg.maxValues.val → i < 48 →
      (s.dutiful last = true ↔ ∃ r vs, last = some r ∧ r.values = some vs ∧ i < vs.length)) ∧
    (offset = 0x200 + i → i < s.cfg.rxMax →
      (s.dutiful last = true ↔ ∃ r bytes, last = some r ∧ r.reply = some bytes ∧ i < bytes.length)) ∧
    (offset = 0x300 + i → i < 259 →
      (s.dutiful last = true ↔ ∃ r bytes, last = some r ∧ r.frame = some bytes ∧ i < bytes.length))) ∧
  (∀ (s t : State) (last : Option OpResult) (offset : Nat) (v : Word) (rest : List Input),
    s.inputs = .write offset v :: rest → offset ≠ 0x000 → step s = .next t → resultAfter last s t = last)
end

