-- ==== Sys2Proof/Laws/Codec.lean ====
section
/-! SUPPORT. What the pure codec functions and the decoder answer, once each: lengths, the shape of a built
frame, and the two views of a decoded frame. -/

namespace Sys2Proof

@[simp] theorem le32_length (w : Word) : (le32 w).length = 4 := rfl

@[simp] theorem flatMap_le32_length (vs : List Word) : (vs.flatMap le32).length = 4 * vs.length := by
  induction vs with
  | nil => rfl
  | cons v vs ih => simp only [List.flatMap_cons, List.length_append, le32_length, List.length_cons, ih]; omega

@[simp] theorem pack_length (selen : Bool) (sel : Byte) (vs : List Word) :
    (pack selen sel vs).length = selen.toNat + 4 * vs.length := by
  cases selen <;> simp [pack] <;> omega

@[simp] theorem byteSum_append (xs ys : List Byte) : byteSum (xs ++ ys) = byteSum xs + byteSum ys := by
  induction xs with
  | nil => simp [byteSum]
  | cons x xs ih => simp only [List.cons_append, byteSum, ih]; omega

@[simp] theorem frameHead_length (c : Config) (opc : Byte) (p : List Byte) :
    (frameHead c opc p).length = 3 + p.length := by
  simp only [frameHead, List.length_cons]; omega

/-- A payload of at most 255 bytes has a frame: its head and the checksum of its head (R102). -/
theorem buildFrame_of_le {c : Config} {opc : Byte} {p : List Byte} (h : p.length ≤ 255) :
    buildFrame c opc p = some (frameHead c opc p ++ [cksum8 (frameHead c opc p)]) := by
  simp [buildFrame, maxPayload, h]

/-- A payload of more has none (R104). -/
theorem buildFrame_of_gt {c : Config} {opc : Byte} {p : List Byte} (h : 255 < p.length) :
    buildFrame c opc p = none := by
  simp [buildFrame, maxPayload, Nat.not_le.mpr h]

/-- A built frame is four bytes longer than its payload (R102). -/
theorem buildFrame_length {c : Config} {opc : Byte} {p f : List Byte} (h : buildFrame c opc p = some f) :
    f.length = 4 + p.length := by
  unfold buildFrame at h
  split at h
  · cases h; simp only [List.length_append, frameHead_length, List.length_cons, List.length_nil]; omega
  · cases h

theorem wordsOf_length (n : Nat) : ∀ bs : List Byte, bs.length = 4 * n → (wordsOf bs).length = n := by
  induction n with
  | zero => intro bs h; rw [List.length_eq_zero_iff.mp (by omega : bs.length = 0)]; rfl
  | succ n ih =>
    intro bs h
    match bs, h with
    | b0 :: b1 :: b2 :: b3 :: rest, h =>
      simp only [wordsOf, List.length_cons] at h ⊢
      rw [ih rest (by omega)]

/-- A frame the decoder reads whole is an instruction of the request port with the bytes' own fields. -/
theorem decodeRequest_ok {c : Config} {bs : List Byte} {i : Instr} (h : decode c .request bs = .ok i) :
    ∃ opc payload ck, i = .frame opc payload ck ∧ payload.length ≤ 255 ∧
      bs = frameHead c opc payload ++ [ck] := by
  match bs with
  | [] => simp [decode, decodeFrame] at h
  | [_] => simp [decode, decodeFrame] at h
  | [_, _] => simp [decode, decodeFrame] at h
  | start :: opc :: len :: rest =>
    simp only [decode, decodeFrame] at h
    by_cases hs : start = c.startByte
    · simp only [hs, ne_eq, not_true_eq_false, if_false] at h
      cases hd : rest.drop len.toNat with
      | nil => simp [hd] at h
      | cons ck left =>
        cases left with
        | cons x xs => simp [hd] at h
        | nil =>
          simp only [hd, Decoded.ok.injEq] at h
          have hlen : (rest.take len.toNat).length = len.toNat := by
            have h1 := congrArg List.length hd
            simp only [List.length_drop, List.length_cons, List.length_nil] at h1
            simp only [List.length_take]; omega
          refine ⟨opc, rest.take len.toNat, ck, h.symm, ?_, ?_⟩
          · have := len.isLt; omega
          · simp only [frameHead, hs, hlen, BitVec.ofNat_toNat, BitVec.setWidth_eq, List.cons_append]
            rw [← hd, List.take_append_drop]
    · simp [hs] at h

/-- A frame laid out from its fields reads back as those fields (R80). -/
theorem decodeRequest_of_fields {c : Config} {opc ck : Byte} {p : List Byte} (h : p.length ≤ 255) :
    decode c .request (frameHead c opc p ++ [ck]) = .ok (.frame opc p ck) := by
  have hl : (BitVec.ofNat 8 p.length).toNat = p.length := by
    simp only [BitVec.toNat_ofNat]; omega
  simp [decode, decodeFrame, frameHead, hl]

end Sys2Proof
end

