-- ==== Sys2Proof/Laws/State.lean ====
section
/-! SUPPORT. One lemma per field per update of the state: what each named update writes, and that it leaves
every other field alone. Cited by simp, so that no proof unfolds a record update. -/

namespace Sys2Proof.Machine

variable (s : State)

@[simp] theorem State.setCmd_cfg (w : Word) : (s.setCmd w).cfg = s.cfg := rfl
@[simp] theorem State.setCmd_cmd (w : Word) : (s.setCmd w).cmd = w := rfl
@[simp] theorem State.setCmd_plen (w : Word) : (s.setCmd w).plen = s.plen := rfl
@[simp] theorem State.setCmd_exp (w : Word) : (s.setCmd w).exp = s.exp := rfl
@[simp] theorem State.setCmd_pay (w : Word) : (s.setCmd w).pay = s.pay := rfl
@[simp] theorem State.setCmd_val (w : Word) : (s.setCmd w).val = s.val := rfl
@[simp] theorem State.setCmd_rbuf (w : Word) : (s.setCmd w).rbuf = s.rbuf := rfl
@[simp] theorem State.setCmd_rlen (w : Word) : (s.setCmd w).rlen = s.rlen := rfl
@[simp] theorem State.setCmd_frm (w : Word) : (s.setCmd w).frm = s.frm := rfl
@[simp] theorem State.setCmd_flen (w : Word) : (s.setCmd w).flen = s.flen := rfl
@[simp] theorem State.setCmd_ok (w : Word) : (s.setCmd w).ok = s.ok := rfl
@[simp] theorem State.setCmd_busy (w : Word) : (s.setCmd w).busy = s.busy := rfl
@[simp] theorem State.setCmd_status (w : Word) : (s.setCmd w).status = s.status := rfl
@[simp] theorem State.setCmd_phase (w : Word) : (s.setCmd w).phase = s.phase := rfl
@[simp] theorem State.setCmd_txs (w : Word) : (s.setCmd w).txs = s.txs := rfl
@[simp] theorem State.setCmd_rxq (w : Word) : (s.setCmd w).rxq = s.rxq := rfl
@[simp] theorem State.setCmd_conn (w : Word) : (s.setCmd w).conn = s.conn := rfl
@[simp] theorem State.setCmd_link (w : Word) : (s.setCmd w).link = s.link := rfl
@[simp] theorem State.setCmd_answers (w : Word) : (s.setCmd w).answers = s.answers := rfl
@[simp] theorem State.setCmd_draws (w : Word) : (s.setCmd w).draws = s.draws := rfl
@[simp] theorem State.setCmd_inputs (w : Word) : (s.setCmd w).inputs = s.inputs := rfl
@[simp] theorem State.setCmd_rdata (w : Word) : (s.setCmd w).rdata = s.rdata := rfl

@[simp] theorem State.setPlen_cfg (v : Byte) : (s.setPlen v).cfg = s.cfg := rfl
@[simp] theorem State.setPlen_cmd (v : Byte) : (s.setPlen v).cmd = s.cmd := rfl
@[simp] theorem State.setPlen_plen (v : Byte) : (s.setPlen v).plen = v := rfl
@[simp] theorem State.setPlen_exp (v : Byte) : (s.setPlen v).exp = s.exp := rfl
@[simp] theorem State.setPlen_pay (v : Byte) : (s.setPlen v).pay = s.pay := rfl
@[simp] theorem State.setPlen_val (v : Byte) : (s.setPlen v).val = s.val := rfl
@[simp] theorem State.setPlen_rbuf (v : Byte) : (s.setPlen v).rbuf = s.rbuf := rfl
@[simp] theorem State.setPlen_rlen (v : Byte) : (s.setPlen v).rlen = s.rlen := rfl
@[simp] theorem State.setPlen_frm (v : Byte) : (s.setPlen v).frm = s.frm := rfl
@[simp] theorem State.setPlen_flen (v : Byte) : (s.setPlen v).flen = s.flen := rfl
@[simp] theorem State.setPlen_ok (v : Byte) : (s.setPlen v).ok = s.ok := rfl
@[simp] theorem State.setPlen_busy (v : Byte) : (s.setPlen v).busy = s.busy := rfl
@[simp] theorem State.setPlen_status (v : Byte) : (s.setPlen v).status = s.status := rfl
@[simp] theorem State.setPlen_phase (v : Byte) : (s.setPlen v).phase = s.phase := rfl
@[simp] theorem State.setPlen_txs (v : Byte) : (s.setPlen v).txs = s.txs := rfl
@[simp] theorem State.setPlen_rxq (v : Byte) : (s.setPlen v).rxq = s.rxq := rfl
@[simp] theorem State.setPlen_conn (v : Byte) : (s.setPlen v).conn = s.conn := rfl
@[simp] theorem State.setPlen_link (v : Byte) : (s.setPlen v).link = s.link := rfl
@[simp] theorem State.setPlen_answers (v : Byte) : (s.setPlen v).answers = s.answers := rfl
@[simp] theorem State.setPlen_draws (v : Byte) : (s.setPlen v).draws = s.draws := rfl
@[simp] theorem State.setPlen_inputs (v : Byte) : (s.setPlen v).inputs = s.inputs := rfl
@[simp] theorem State.setPlen_rdata (v : Byte) : (s.setPlen v).rdata = s.rdata := rfl

@[simp] theorem State.setExp_cfg (v : Byte) : (s.setExp v).cfg = s.cfg := rfl
@[simp] theorem State.setExp_cmd (v : Byte) : (s.setExp v).cmd = s.cmd := rfl
@[simp] theorem State.setExp_plen (v : Byte) : (s.setExp v).plen = s.plen := rfl
@[simp] theorem State.setExp_exp (v : Byte) : (s.setExp v).exp = v := rfl
@[simp] theorem State.setExp_pay (v : Byte) : (s.setExp v).pay = s.pay := rfl
@[simp] theorem State.setExp_val (v : Byte) : (s.setExp v).val = s.val := rfl
@[simp] theorem State.setExp_rbuf (v : Byte) : (s.setExp v).rbuf = s.rbuf := rfl
@[simp] theorem State.setExp_rlen (v : Byte) : (s.setExp v).rlen = s.rlen := rfl
@[simp] theorem State.setExp_frm (v : Byte) : (s.setExp v).frm = s.frm := rfl
@[simp] theorem State.setExp_flen (v : Byte) : (s.setExp v).flen = s.flen := rfl
@[simp] theorem State.setExp_ok (v : Byte) : (s.setExp v).ok = s.ok := rfl
@[simp] theorem State.setExp_busy (v : Byte) : (s.setExp v).busy = s.busy := rfl
@[simp] theorem State.setExp_status (v : Byte) : (s.setExp v).status = s.status := rfl
@[simp] theorem State.setExp_phase (v : Byte) : (s.setExp v).phase = s.phase := rfl
@[simp] theorem State.setExp_txs (v : Byte) : (s.setExp v).txs = s.txs := rfl
@[simp] theorem State.setExp_rxq (v : Byte) : (s.setExp v).rxq = s.rxq := rfl
@[simp] theorem State.setExp_conn (v : Byte) : (s.setExp v).conn = s.conn := rfl
@[simp] theorem State.setExp_link (v : Byte) : (s.setExp v).link = s.link := rfl
@[simp] theorem State.setExp_answers (v : Byte) : (s.setExp v).answers = s.answers := rfl
@[simp] theorem State.setExp_draws (v : Byte) : (s.setExp v).draws = s.draws := rfl
@[simp] theorem State.setExp_inputs (v : Byte) : (s.setExp v).inputs = s.inputs := rfl
@[simp] theorem State.setExp_rdata (v : Byte) : (s.setExp v).rdata = s.rdata := rfl

@[simp] theorem State.setPay_cfg (p : List (Slot 8)) : (s.setPay p).cfg = s.cfg := rfl
@[simp] theorem State.setPay_cmd (p : List (Slot 8)) : (s.setPay p).cmd = s.cmd := rfl
@[simp] theorem State.setPay_plen (p : List (Slot 8)) : (s.setPay p).plen = s.plen := rfl
@[simp] theorem State.setPay_exp (p : List (Slot 8)) : (s.setPay p).exp = s.exp := rfl
@[simp] theorem State.setPay_pay (p : List (Slot 8)) : (s.setPay p).pay = p := rfl
@[simp] theorem State.setPay_val (p : List (Slot 8)) : (s.setPay p).val = s.val := rfl
@[simp] theorem State.setPay_rbuf (p : List (Slot 8)) : (s.setPay p).rbuf = s.rbuf := rfl
@[simp] theorem State.setPay_rlen (p : List (Slot 8)) : (s.setPay p).rlen = s.rlen := rfl
@[simp] theorem State.setPay_frm (p : List (Slot 8)) : (s.setPay p).frm = s.frm := rfl
@[simp] theorem State.setPay_flen (p : List (Slot 8)) : (s.setPay p).flen = s.flen := rfl
@[simp] theorem State.setPay_ok (p : List (Slot 8)) : (s.setPay p).ok = s.ok := rfl
@[simp] theorem State.setPay_busy (p : List (Slot 8)) : (s.setPay p).busy = s.busy := rfl
@[simp] theorem State.setPay_status (p : List (Slot 8)) : (s.setPay p).status = s.status := rfl
@[simp] theorem State.setPay_phase (p : List (Slot 8)) : (s.setPay p).phase = s.phase := rfl
@[simp] theorem State.setPay_txs (p : List (Slot 8)) : (s.setPay p).txs = s.txs := rfl
@[simp] theorem State.setPay_rxq (p : List (Slot 8)) : (s.setPay p).rxq = s.rxq := rfl
@[simp] theorem State.setPay_conn (p : List (Slot 8)) : (s.setPay p).conn = s.conn := rfl
@[simp] theorem State.setPay_link (p : List (Slot 8)) : (s.setPay p).link = s.link := rfl
@[simp] theorem State.setPay_answers (p : List (Slot 8)) : (s.setPay p).answers = s.answers := rfl
@[simp] theorem State.setPay_draws (p : List (Slot 8)) : (s.setPay p).draws = s.draws := rfl
@[simp] theorem State.setPay_inputs (p : List (Slot 8)) : (s.setPay p).inputs = s.inputs := rfl
@[simp] theorem State.setPay_rdata (p : List (Slot 8)) : (s.setPay p).rdata = s.rdata := rfl

@[simp] theorem State.setVal_cfg (v : List (Slot 32)) : (s.setVal v).cfg = s.cfg := rfl
@[simp] theorem State.setVal_cmd (v : List (Slot 32)) : (s.setVal v).cmd = s.cmd := rfl
@[simp] theorem State.setVal_plen (v : List (Slot 32)) : (s.setVal v).plen = s.plen := rfl
@[simp] theorem State.setVal_exp (v : List (Slot 32)) : (s.setVal v).exp = s.exp := rfl
@[simp] theorem State.setVal_pay (v : List (Slot 32)) : (s.setVal v).pay = s.pay := rfl
@[simp] theorem State.setVal_val (v : List (Slot 32)) : (s.setVal v).val = v := rfl
@[simp] theorem State.setVal_rbuf (v : List (Slot 32)) : (s.setVal v).rbuf = s.rbuf := rfl
@[simp] theorem State.setVal_rlen (v : List (Slot 32)) : (s.setVal v).rlen = s.rlen := rfl
@[simp] theorem State.setVal_frm (v : List (Slot 32)) : (s.setVal v).frm = s.frm := rfl
@[simp] theorem State.setVal_flen (v : List (Slot 32)) : (s.setVal v).flen = s.flen := rfl
@[simp] theorem State.setVal_ok (v : List (Slot 32)) : (s.setVal v).ok = s.ok := rfl
@[simp] theorem State.setVal_busy (v : List (Slot 32)) : (s.setVal v).busy = s.busy := rfl
@[simp] theorem State.setVal_status (v : List (Slot 32)) : (s.setVal v).status = s.status := rfl
@[simp] theorem State.setVal_phase (v : List (Slot 32)) : (s.setVal v).phase = s.phase := rfl
@[simp] theorem State.setVal_txs (v : List (Slot 32)) : (s.setVal v).txs = s.txs := rfl
@[simp] theorem State.setVal_rxq (v : List (Slot 32)) : (s.setVal v).rxq = s.rxq := rfl
@[simp] theorem State.setVal_conn (v : List (Slot 32)) : (s.setVal v).conn = s.conn := rfl
@[simp] theorem State.setVal_link (v : List (Slot 32)) : (s.setVal v).link = s.link := rfl
@[simp] theorem State.setVal_answers (v : List (Slot 32)) : (s.setVal v).answers = s.answers := rfl
@[simp] theorem State.setVal_draws (v : List (Slot 32)) : (s.setVal v).draws = s.draws := rfl
@[simp] theorem State.setVal_inputs (v : List (Slot 32)) : (s.setVal v).inputs = s.inputs := rfl
@[simp] theorem State.setVal_rdata (v : List (Slot 32)) : (s.setVal v).rdata = s.rdata := rfl

@[simp] theorem State.setReply_cfg (r : List (Slot 8)) (n : Byte) : (s.setReply r n).cfg = s.cfg := rfl
@[simp] theorem State.setReply_cmd (r : List (Slot 8)) (n : Byte) : (s.setReply r n).cmd = s.cmd := rfl
@[simp] theorem State.setReply_plen (r : List (Slot 8)) (n : Byte) : (s.setReply r n).plen = s.plen := rfl
@[simp] theorem State.setReply_exp (r : List (Slot 8)) (n : Byte) : (s.setReply r n).exp = s.exp := rfl
@[simp] theorem State.setReply_pay (r : List (Slot 8)) (n : Byte) : (s.setReply r n).pay = s.pay := rfl
@[simp] theorem State.setReply_val (r : List (Slot 8)) (n : Byte) : (s.setReply r n).val = s.val := rfl
@[simp] theorem State.setReply_rbuf (r : List (Slot 8)) (n : Byte) : (s.setReply r n).rbuf = r := rfl
@[simp] theorem State.setReply_rlen (r : List (Slot 8)) (n : Byte) : (s.setReply r n).rlen = n := rfl
@[simp] theorem State.setReply_frm (r : List (Slot 8)) (n : Byte) : (s.setReply r n).frm = s.frm := rfl
@[simp] theorem State.setReply_flen (r : List (Slot 8)) (n : Byte) : (s.setReply r n).flen = s.flen := rfl
@[simp] theorem State.setReply_ok (r : List (Slot 8)) (n : Byte) : (s.setReply r n).ok = s.ok := rfl
@[simp] theorem State.setReply_busy (r : List (Slot 8)) (n : Byte) : (s.setReply r n).busy = s.busy := rfl
@[simp] theorem State.setReply_status (r : List (Slot 8)) (n : Byte) : (s.setReply r n).status = s.status := rfl
@[simp] theorem State.setReply_phase (r : List (Slot 8)) (n : Byte) : (s.setReply r n).phase = s.phase := rfl
@[simp] theorem State.setReply_txs (r : List (Slot 8)) (n : Byte) : (s.setReply r n).txs = s.txs := rfl
@[simp] theorem State.setReply_rxq (r : List (Slot 8)) (n : Byte) : (s.setReply r n).rxq = s.rxq := rfl
@[simp] theorem State.setReply_conn (r : List (Slot 8)) (n : Byte) : (s.setReply r n).conn = s.conn := rfl
@[simp] theorem State.setReply_link (r : List (Slot 8)) (n : Byte) : (s.setReply r n).link = s.link := rfl
@[simp] theorem State.setReply_answers (r : List (Slot 8)) (n : Byte) : (s.setReply r n).answers = s.answers := rfl
@[simp] theorem State.setReply_draws (r : List (Slot 8)) (n : Byte) : (s.setReply r n).draws = s.draws := rfl
@[simp] theorem State.setReply_inputs (r : List (Slot 8)) (n : Byte) : (s.setReply r n).inputs = s.inputs := rfl
@[simp] theorem State.setReply_rdata (r : List (Slot 8)) (n : Byte) : (s.setReply r n).rdata = s.rdata := rfl

@[simp] theorem State.setFrame_cfg (f : List Byte) (n : BitVec 9) : (s.setFrame f n).cfg = s.cfg := rfl
@[simp] theorem State.setFrame_cmd (f : List Byte) (n : BitVec 9) : (s.setFrame f n).cmd = s.cmd := rfl
@[simp] theorem State.setFrame_plen (f : List Byte) (n : BitVec 9) : (s.setFrame f n).plen = s.plen := rfl
@[simp] theorem State.setFrame_exp (f : List Byte) (n : BitVec 9) : (s.setFrame f n).exp = s.exp := rfl
@[simp] theorem State.setFrame_pay (f : List Byte) (n : BitVec 9) : (s.setFrame f n).pay = s.pay := rfl
@[simp] theorem State.setFrame_val (f : List Byte) (n : BitVec 9) : (s.setFrame f n).val = s.val := rfl
@[simp] theorem State.setFrame_rbuf (f : List Byte) (n : BitVec 9) : (s.setFrame f n).rbuf = s.rbuf := rfl
@[simp] theorem State.setFrame_rlen (f : List Byte) (n : BitVec 9) : (s.setFrame f n).rlen = s.rlen := rfl
@[simp] theorem State.setFrame_frm (f : List Byte) (n : BitVec 9) : (s.setFrame f n).frm = f := rfl
@[simp] theorem State.setFrame_flen (f : List Byte) (n : BitVec 9) : (s.setFrame f n).flen = n := rfl
@[simp] theorem State.setFrame_ok (f : List Byte) (n : BitVec 9) : (s.setFrame f n).ok = s.ok := rfl
@[simp] theorem State.setFrame_busy (f : List Byte) (n : BitVec 9) : (s.setFrame f n).busy = s.busy := rfl
@[simp] theorem State.setFrame_status (f : List Byte) (n : BitVec 9) : (s.setFrame f n).status = s.status := rfl
@[simp] theorem State.setFrame_phase (f : List Byte) (n : BitVec 9) : (s.setFrame f n).phase = s.phase := rfl
@[simp] theorem State.setFrame_txs (f : List Byte) (n : BitVec 9) : (s.setFrame f n).txs = s.txs := rfl
@[simp] theorem State.setFrame_rxq (f : List Byte) (n : BitVec 9) : (s.setFrame f n).rxq = s.rxq := rfl
@[simp] theorem State.setFrame_conn (f : List Byte) (n : BitVec 9) : (s.setFrame f n).conn = s.conn := rfl
@[simp] theorem State.setFrame_link (f : List Byte) (n : BitVec 9) : (s.setFrame f n).link = s.link := rfl
@[simp] theorem State.setFrame_answers (f : List Byte) (n : BitVec 9) : (s.setFrame f n).answers = s.answers := rfl
@[simp] theorem State.setFrame_draws (f : List Byte) (n : BitVec 9) : (s.setFrame f n).draws = s.draws := rfl
@[simp] theorem State.setFrame_inputs (f : List Byte) (n : BitVec 9) : (s.setFrame f n).inputs = s.inputs := rfl
@[simp] theorem State.setFrame_rdata (f : List Byte) (n : BitVec 9) : (s.setFrame f n).rdata = s.rdata := rfl

@[simp] theorem State.setStatus_cfg (st : Status) : (s.setStatus st).cfg = s.cfg := rfl
@[simp] theorem State.setStatus_cmd (st : Status) : (s.setStatus st).cmd = s.cmd := rfl
@[simp] theorem State.setStatus_plen (st : Status) : (s.setStatus st).plen = s.plen := rfl
@[simp] theorem State.setStatus_exp (st : Status) : (s.setStatus st).exp = s.exp := rfl
@[simp] theorem State.setStatus_pay (st : Status) : (s.setStatus st).pay = s.pay := rfl
@[simp] theorem State.setStatus_val (st : Status) : (s.setStatus st).val = s.val := rfl
@[simp] theorem State.setStatus_rbuf (st : Status) : (s.setStatus st).rbuf = s.rbuf := rfl
@[simp] theorem State.setStatus_rlen (st : Status) : (s.setStatus st).rlen = s.rlen := rfl
@[simp] theorem State.setStatus_frm (st : Status) : (s.setStatus st).frm = s.frm := rfl
@[simp] theorem State.setStatus_flen (st : Status) : (s.setStatus st).flen = s.flen := rfl
@[simp] theorem State.setStatus_ok (st : Status) : (s.setStatus st).ok = decide (st = .ok) := rfl
@[simp] theorem State.setStatus_busy (st : Status) : (s.setStatus st).busy = s.busy := rfl
@[simp] theorem State.setStatus_status (st : Status) : (s.setStatus st).status = st := rfl
@[simp] theorem State.setStatus_phase (st : Status) : (s.setStatus st).phase = s.phase := rfl
@[simp] theorem State.setStatus_txs (st : Status) : (s.setStatus st).txs = s.txs := rfl
@[simp] theorem State.setStatus_rxq (st : Status) : (s.setStatus st).rxq = s.rxq := rfl
@[simp] theorem State.setStatus_conn (st : Status) : (s.setStatus st).conn = s.conn := rfl
@[simp] theorem State.setStatus_link (st : Status) : (s.setStatus st).link = s.link := rfl
@[simp] theorem State.setStatus_answers (st : Status) : (s.setStatus st).answers = s.answers := rfl
@[simp] theorem State.setStatus_draws (st : Status) : (s.setStatus st).draws = s.draws := rfl
@[simp] theorem State.setStatus_inputs (st : Status) : (s.setStatus st).inputs = s.inputs := rfl
@[simp] theorem State.setStatus_rdata (st : Status) : (s.setStatus st).rdata = s.rdata := rfl

@[simp] theorem State.setPhase_cfg (p : Phase) : (s.setPhase p).cfg = s.cfg := rfl
@[simp] theorem State.setPhase_cmd (p : Phase) : (s.setPhase p).cmd = s.cmd := rfl
@[simp] theorem State.setPhase_plen (p : Phase) : (s.setPhase p).plen = s.plen := rfl
@[simp] theorem State.setPhase_exp (p : Phase) : (s.setPhase p).exp = s.exp := rfl
@[simp] theorem State.setPhase_pay (p : Phase) : (s.setPhase p).pay = s.pay := rfl
@[simp] theorem State.setPhase_val (p : Phase) : (s.setPhase p).val = s.val := rfl
@[simp] theorem State.setPhase_rbuf (p : Phase) : (s.setPhase p).rbuf = s.rbuf := rfl
@[simp] theorem State.setPhase_rlen (p : Phase) : (s.setPhase p).rlen = s.rlen := rfl
@[simp] theorem State.setPhase_frm (p : Phase) : (s.setPhase p).frm = s.frm := rfl
@[simp] theorem State.setPhase_flen (p : Phase) : (s.setPhase p).flen = s.flen := rfl
@[simp] theorem State.setPhase_ok (p : Phase) : (s.setPhase p).ok = s.ok := rfl
@[simp] theorem State.setPhase_busy (p : Phase) : (s.setPhase p).busy = decide (p ≠ .idle) := rfl
@[simp] theorem State.setPhase_status (p : Phase) : (s.setPhase p).status = s.status := rfl
@[simp] theorem State.setPhase_phase (p : Phase) : (s.setPhase p).phase = p := rfl
@[simp] theorem State.setPhase_txs (p : Phase) : (s.setPhase p).txs = s.txs := rfl
@[simp] theorem State.setPhase_rxq (p : Phase) : (s.setPhase p).rxq = s.rxq := rfl
@[simp] theorem State.setPhase_conn (p : Phase) : (s.setPhase p).conn = s.conn := rfl
@[simp] theorem State.setPhase_link (p : Phase) : (s.setPhase p).link = s.link := rfl
@[simp] theorem State.setPhase_answers (p : Phase) : (s.setPhase p).answers = s.answers := rfl
@[simp] theorem State.setPhase_draws (p : Phase) : (s.setPhase p).draws = s.draws := rfl
@[simp] theorem State.setPhase_inputs (p : Phase) : (s.setPhase p).inputs = s.inputs := rfl
@[simp] theorem State.setPhase_rdata (p : Phase) : (s.setPhase p).rdata = s.rdata := rfl

@[simp] theorem State.setTxs_cfg (t : List Byte) : (s.setTxs t).cfg = s.cfg := rfl
@[simp] theorem State.setTxs_cmd (t : List Byte) : (s.setTxs t).cmd = s.cmd := rfl
@[simp] theorem State.setTxs_plen (t : List Byte) : (s.setTxs t).plen = s.plen := rfl
@[simp] theorem State.setTxs_exp (t : List Byte) : (s.setTxs t).exp = s.exp := rfl
@[simp] theorem State.setTxs_pay (t : List Byte) : (s.setTxs t).pay = s.pay := rfl
@[simp] theorem State.setTxs_val (t : List Byte) : (s.setTxs t).val = s.val := rfl
@[simp] theorem State.setTxs_rbuf (t : List Byte) : (s.setTxs t).rbuf = s.rbuf := rfl
@[simp] theorem State.setTxs_rlen (t : List Byte) : (s.setTxs t).rlen = s.rlen := rfl
@[simp] theorem State.setTxs_frm (t : List Byte) : (s.setTxs t).frm = s.frm := rfl
@[simp] theorem State.setTxs_flen (t : List Byte) : (s.setTxs t).flen = s.flen := rfl
@[simp] theorem State.setTxs_ok (t : List Byte) : (s.setTxs t).ok = s.ok := rfl
@[simp] theorem State.setTxs_busy (t : List Byte) : (s.setTxs t).busy = s.busy := rfl
@[simp] theorem State.setTxs_status (t : List Byte) : (s.setTxs t).status = s.status := rfl
@[simp] theorem State.setTxs_phase (t : List Byte) : (s.setTxs t).phase = s.phase := rfl
@[simp] theorem State.setTxs_txs (t : List Byte) : (s.setTxs t).txs = t := rfl
@[simp] theorem State.setTxs_rxq (t : List Byte) : (s.setTxs t).rxq = s.rxq := rfl
@[simp] theorem State.setTxs_conn (t : List Byte) : (s.setTxs t).conn = s.conn := rfl
@[simp] theorem State.setTxs_link (t : List Byte) : (s.setTxs t).link = s.link := rfl
@[simp] theorem State.setTxs_answers (t : List Byte) : (s.setTxs t).answers = s.answers := rfl
@[simp] theorem State.setTxs_draws (t : List Byte) : (s.setTxs t).draws = s.draws := rfl
@[simp] theorem State.setTxs_inputs (t : List Byte) : (s.setTxs t).inputs = s.inputs := rfl
@[simp] theorem State.setTxs_rdata (t : List Byte) : (s.setTxs t).rdata = s.rdata := rfl

@[simp] theorem State.setRxq_cfg (r : List Byte) : (s.setRxq r).cfg = s.cfg := rfl
@[simp] theorem State.setRxq_cmd (r : List Byte) : (s.setRxq r).cmd = s.cmd := rfl
@[simp] theorem State.setRxq_plen (r : List Byte) : (s.setRxq r).plen = s.plen := rfl
@[simp] theorem State.setRxq_exp (r : List Byte) : (s.setRxq r).exp = s.exp := rfl
@[simp] theorem State.setRxq_pay (r : List Byte) : (s.setRxq r).pay = s.pay := rfl
@[simp] theorem State.setRxq_val (r : List Byte) : (s.setRxq r).val = s.val := rfl
@[simp] theorem State.setRxq_rbuf (r : List Byte) : (s.setRxq r).rbuf = s.rbuf := rfl
@[simp] theorem State.setRxq_rlen (r : List Byte) : (s.setRxq r).rlen = s.rlen := rfl
@[simp] theorem State.setRxq_frm (r : List Byte) : (s.setRxq r).frm = s.frm := rfl
@[simp] theorem State.setRxq_flen (r : List Byte) : (s.setRxq r).flen = s.flen := rfl
@[simp] theorem State.setRxq_ok (r : List Byte) : (s.setRxq r).ok = s.ok := rfl
@[simp] theorem State.setRxq_busy (r : List Byte) : (s.setRxq r).busy = s.busy := rfl
@[simp] theorem State.setRxq_status (r : List Byte) : (s.setRxq r).status = s.status := rfl
@[simp] theorem State.setRxq_phase (r : List Byte) : (s.setRxq r).phase = s.phase := rfl
@[simp] theorem State.setRxq_txs (r : List Byte) : (s.setRxq r).txs = s.txs := rfl
@[simp] theorem State.setRxq_rxq (r : List Byte) : (s.setRxq r).rxq = r := rfl
@[simp] theorem State.setRxq_conn (r : List Byte) : (s.setRxq r).conn = s.conn := rfl
@[simp] theorem State.setRxq_link (r : List Byte) : (s.setRxq r).link = s.link := rfl
@[simp] theorem State.setRxq_answers (r : List Byte) : (s.setRxq r).answers = s.answers := rfl
@[simp] theorem State.setRxq_draws (r : List Byte) : (s.setRxq r).draws = s.draws := rfl
@[simp] theorem State.setRxq_inputs (r : List Byte) : (s.setRxq r).inputs = s.inputs := rfl
@[simp] theorem State.setRxq_rdata (r : List Byte) : (s.setRxq r).rdata = s.rdata := rfl

@[simp] theorem State.setConn_cfg (b : Bool) : (s.setConn b).cfg = s.cfg := rfl
@[simp] theorem State.setConn_cmd (b : Bool) : (s.setConn b).cmd = s.cmd := rfl
@[simp] theorem State.setConn_plen (b : Bool) : (s.setConn b).plen = s.plen := rfl
@[simp] theorem State.setConn_exp (b : Bool) : (s.setConn b).exp = s.exp := rfl
@[simp] theorem State.setConn_pay (b : Bool) : (s.setConn b).pay = s.pay := rfl
@[simp] theorem State.setConn_val (b : Bool) : (s.setConn b).val = s.val := rfl
@[simp] theorem State.setConn_rbuf (b : Bool) : (s.setConn b).rbuf = s.rbuf := rfl
@[simp] theorem State.setConn_rlen (b : Bool) : (s.setConn b).rlen = s.rlen := rfl
@[simp] theorem State.setConn_frm (b : Bool) : (s.setConn b).frm = s.frm := rfl
@[simp] theorem State.setConn_flen (b : Bool) : (s.setConn b).flen = s.flen := rfl
@[simp] theorem State.setConn_ok (b : Bool) : (s.setConn b).ok = s.ok := rfl
@[simp] theorem State.setConn_busy (b : Bool) : (s.setConn b).busy = s.busy := rfl
@[simp] theorem State.setConn_status (b : Bool) : (s.setConn b).status = s.status := rfl
@[simp] theorem State.setConn_phase (b : Bool) : (s.setConn b).phase = s.phase := rfl
@[simp] theorem State.setConn_txs (b : Bool) : (s.setConn b).txs = s.txs := rfl
@[simp] theorem State.setConn_rxq (b : Bool) : (s.setConn b).rxq = s.rxq := rfl
@[simp] theorem State.setConn_conn (b : Bool) : (s.setConn b).conn = b := rfl
@[simp] theorem State.setConn_link (b : Bool) : (s.setConn b).link = s.link := rfl
@[simp] theorem State.setConn_answers (b : Bool) : (s.setConn b).answers = s.answers := rfl
@[simp] theorem State.setConn_draws (b : Bool) : (s.setConn b).draws = s.draws := rfl
@[simp] theorem State.setConn_inputs (b : Bool) : (s.setConn b).inputs = s.inputs := rfl
@[simp] theorem State.setConn_rdata (b : Bool) : (s.setConn b).rdata = s.rdata := rfl

@[simp] theorem State.setLink_cfg (l : Link) : (s.setLink l).cfg = s.cfg := rfl
@[simp] theorem State.setLink_cmd (l : Link) : (s.setLink l).cmd = s.cmd := rfl
@[simp] theorem State.setLink_plen (l : Link) : (s.setLink l).plen = s.plen := rfl
@[simp] theorem State.setLink_exp (l : Link) : (s.setLink l).exp = s.exp := rfl
@[simp] theorem State.setLink_pay (l : Link) : (s.setLink l).pay = s.pay := rfl
@[simp] theorem State.setLink_val (l : Link) : (s.setLink l).val = s.val := rfl
@[simp] theorem State.setLink_rbuf (l : Link) : (s.setLink l).rbuf = s.rbuf := rfl
@[simp] theorem State.setLink_rlen (l : Link) : (s.setLink l).rlen = s.rlen := rfl
@[simp] theorem State.setLink_frm (l : Link) : (s.setLink l).frm = s.frm := rfl
@[simp] theorem State.setLink_flen (l : Link) : (s.setLink l).flen = s.flen := rfl
@[simp] theorem State.setLink_ok (l : Link) : (s.setLink l).ok = s.ok := rfl
@[simp] theorem State.setLink_busy (l : Link) : (s.setLink l).busy = s.busy := rfl
@[simp] theorem State.setLink_status (l : Link) : (s.setLink l).status = s.status := rfl
@[simp] theorem State.setLink_phase (l : Link) : (s.setLink l).phase = s.phase := rfl
@[simp] theorem State.setLink_txs (l : Link) : (s.setLink l).txs = s.txs := rfl
@[simp] theorem State.setLink_rxq (l : Link) : (s.setLink l).rxq = s.rxq := rfl
@[simp] theorem State.setLink_conn (l : Link) : (s.setLink l).conn = s.conn := rfl
@[simp] theorem State.setLink_link (l : Link) : (s.setLink l).link = some l := rfl
@[simp] theorem State.setLink_answers (l : Link) : (s.setLink l).answers = s.answers := rfl
@[simp] theorem State.setLink_draws (l : Link) : (s.setLink l).draws = s.draws := rfl
@[simp] theorem State.setLink_inputs (l : Link) : (s.setLink l).inputs = s.inputs := rfl
@[simp] theorem State.setLink_rdata (l : Link) : (s.setLink l).rdata = s.rdata := rfl

@[simp] theorem State.setAnswers_cfg (a : List Draw) : (s.setAnswers a).cfg = s.cfg := rfl
@[simp] theorem State.setAnswers_cmd (a : List Draw) : (s.setAnswers a).cmd = s.cmd := rfl
@[simp] theorem State.setAnswers_plen (a : List Draw) : (s.setAnswers a).plen = s.plen := rfl
@[simp] theorem State.setAnswers_exp (a : List Draw) : (s.setAnswers a).exp = s.exp := rfl
@[simp] theorem State.setAnswers_pay (a : List Draw) : (s.setAnswers a).pay = s.pay := rfl
@[simp] theorem State.setAnswers_val (a : List Draw) : (s.setAnswers a).val = s.val := rfl
@[simp] theorem State.setAnswers_rbuf (a : List Draw) : (s.setAnswers a).rbuf = s.rbuf := rfl
@[simp] theorem State.setAnswers_rlen (a : List Draw) : (s.setAnswers a).rlen = s.rlen := rfl
@[simp] theorem State.setAnswers_frm (a : List Draw) : (s.setAnswers a).frm = s.frm := rfl
@[simp] theorem State.setAnswers_flen (a : List Draw) : (s.setAnswers a).flen = s.flen := rfl
@[simp] theorem State.setAnswers_ok (a : List Draw) : (s.setAnswers a).ok = s.ok := rfl
@[simp] theorem State.setAnswers_busy (a : List Draw) : (s.setAnswers a).busy = s.busy := rfl
@[simp] theorem State.setAnswers_status (a : List Draw) : (s.setAnswers a).status = s.status := rfl
@[simp] theorem State.setAnswers_phase (a : List Draw) : (s.setAnswers a).phase = s.phase := rfl
@[simp] theorem State.setAnswers_txs (a : List Draw) : (s.setAnswers a).txs = s.txs := rfl
@[simp] theorem State.setAnswers_rxq (a : List Draw) : (s.setAnswers a).rxq = s.rxq := rfl
@[simp] theorem State.setAnswers_conn (a : List Draw) : (s.setAnswers a).conn = s.conn := rfl
@[simp] theorem State.setAnswers_link (a : List Draw) : (s.setAnswers a).link = s.link := rfl
@[simp] theorem State.setAnswers_answers (a : List Draw) : (s.setAnswers a).answers = a := rfl
@[simp] theorem State.setAnswers_draws (a : List Draw) : (s.setAnswers a).draws = s.draws := rfl
@[simp] theorem State.setAnswers_inputs (a : List Draw) : (s.setAnswers a).inputs = s.inputs := rfl
@[simp] theorem State.setAnswers_rdata (a : List Draw) : (s.setAnswers a).rdata = s.rdata := rfl

@[simp] theorem State.setDraws_cfg (n : Nat) : (s.setDraws n).cfg = s.cfg := rfl
@[simp] theorem State.setDraws_cmd (n : Nat) : (s.setDraws n).cmd = s.cmd := rfl
@[simp] theorem State.setDraws_plen (n : Nat) : (s.setDraws n).plen = s.plen := rfl
@[simp] theorem State.setDraws_exp (n : Nat) : (s.setDraws n).exp = s.exp := rfl
@[simp] theorem State.setDraws_pay (n : Nat) : (s.setDraws n).pay = s.pay := rfl
@[simp] theorem State.setDraws_val (n : Nat) : (s.setDraws n).val = s.val := rfl
@[simp] theorem State.setDraws_rbuf (n : Nat) : (s.setDraws n).rbuf = s.rbuf := rfl
@[simp] theorem State.setDraws_rlen (n : Nat) : (s.setDraws n).rlen = s.rlen := rfl
@[simp] theorem State.setDraws_frm (n : Nat) : (s.setDraws n).frm = s.frm := rfl
@[simp] theorem State.setDraws_flen (n : Nat) : (s.setDraws n).flen = s.flen := rfl
@[simp] theorem State.setDraws_ok (n : Nat) : (s.setDraws n).ok = s.ok := rfl
@[simp] theorem State.setDraws_busy (n : Nat) : (s.setDraws n).busy = s.busy := rfl
@[simp] theorem State.setDraws_status (n : Nat) : (s.setDraws n).status = s.status := rfl
@[simp] theorem State.setDraws_phase (n : Nat) : (s.setDraws n).phase = s.phase := rfl
@[simp] theorem State.setDraws_txs (n : Nat) : (s.setDraws n).txs = s.txs := rfl
@[simp] theorem State.setDraws_rxq (n : Nat) : (s.setDraws n).rxq = s.rxq := rfl
@[simp] theorem State.setDraws_conn (n : Nat) : (s.setDraws n).conn = s.conn := rfl
@[simp] theorem State.setDraws_link (n : Nat) : (s.setDraws n).link = s.link := rfl
@[simp] theorem State.setDraws_answers (n : Nat) : (s.setDraws n).answers = s.answers := rfl
@[simp] theorem State.setDraws_draws (n : Nat) : (s.setDraws n).draws = n := rfl
@[simp] theorem State.setDraws_inputs (n : Nat) : (s.setDraws n).inputs = s.inputs := rfl
@[simp] theorem State.setDraws_rdata (n : Nat) : (s.setDraws n).rdata = s.rdata := rfl

@[simp] theorem State.setInputs_cfg (i : List Input) : (s.setInputs i).cfg = s.cfg := rfl
@[simp] theorem State.setInputs_cmd (i : List Input) : (s.setInputs i).cmd = s.cmd := rfl
@[simp] theorem State.setInputs_plen (i : List Input) : (s.setInputs i).plen = s.plen := rfl
@[simp] theorem State.setInputs_exp (i : List Input) : (s.setInputs i).exp = s.exp := rfl
@[simp] theorem State.setInputs_pay (i : List Input) : (s.setInputs i).pay = s.pay := rfl
@[simp] theorem State.setInputs_val (i : List Input) : (s.setInputs i).val = s.val := rfl
@[simp] theorem State.setInputs_rbuf (i : List Input) : (s.setInputs i).rbuf = s.rbuf := rfl
@[simp] theorem State.setInputs_rlen (i : List Input) : (s.setInputs i).rlen = s.rlen := rfl
@[simp] theorem State.setInputs_frm (i : List Input) : (s.setInputs i).frm = s.frm := rfl
@[simp] theorem State.setInputs_flen (i : List Input) : (s.setInputs i).flen = s.flen := rfl
@[simp] theorem State.setInputs_ok (i : List Input) : (s.setInputs i).ok = s.ok := rfl
@[simp] theorem State.setInputs_busy (i : List Input) : (s.setInputs i).busy = s.busy := rfl
@[simp] theorem State.setInputs_status (i : List Input) : (s.setInputs i).status = s.status := rfl
@[simp] theorem State.setInputs_phase (i : List Input) : (s.setInputs i).phase = s.phase := rfl
@[simp] theorem State.setInputs_txs (i : List Input) : (s.setInputs i).txs = s.txs := rfl
@[simp] theorem State.setInputs_rxq (i : List Input) : (s.setInputs i).rxq = s.rxq := rfl
@[simp] theorem State.setInputs_conn (i : List Input) : (s.setInputs i).conn = s.conn := rfl
@[simp] theorem State.setInputs_link (i : List Input) : (s.setInputs i).link = s.link := rfl
@[simp] theorem State.setInputs_answers (i : List Input) : (s.setInputs i).answers = s.answers := rfl
@[simp] theorem State.setInputs_draws (i : List Input) : (s.setInputs i).draws = s.draws := rfl
@[simp] theorem State.setInputs_inputs (i : List Input) : (s.setInputs i).inputs = i := rfl
@[simp] theorem State.setInputs_rdata (i : List Input) : (s.setInputs i).rdata = s.rdata := rfl

@[simp] theorem State.setRdata_cfg (w : Word) : (s.setRdata w).cfg = s.cfg := rfl
@[simp] theorem State.setRdata_cmd (w : Word) : (s.setRdata w).cmd = s.cmd := rfl
@[simp] theorem State.setRdata_plen (w : Word) : (s.setRdata w).plen = s.plen := rfl
@[simp] theorem State.setRdata_exp (w : Word) : (s.setRdata w).exp = s.exp := rfl
@[simp] theorem State.setRdata_pay (w : Word) : (s.setRdata w).pay = s.pay := rfl
@[simp] theorem State.setRdata_val (w : Word) : (s.setRdata w).val = s.val := rfl
@[simp] theorem State.setRdata_rbuf (w : Word) : (s.setRdata w).rbuf = s.rbuf := rfl
@[simp] theorem State.setRdata_rlen (w : Word) : (s.setRdata w).rlen = s.rlen := rfl
@[simp] theorem State.setRdata_frm (w : Word) : (s.setRdata w).frm = s.frm := rfl
@[simp] theorem State.setRdata_flen (w : Word) : (s.setRdata w).flen = s.flen := rfl
@[simp] theorem State.setRdata_ok (w : Word) : (s.setRdata w).ok = s.ok := rfl
@[simp] theorem State.setRdata_busy (w : Word) : (s.setRdata w).busy = s.busy := rfl
@[simp] theorem State.setRdata_status (w : Word) : (s.setRdata w).status = s.status := rfl
@[simp] theorem State.setRdata_phase (w : Word) : (s.setRdata w).phase = s.phase := rfl
@[simp] theorem State.setRdata_txs (w : Word) : (s.setRdata w).txs = s.txs := rfl
@[simp] theorem State.setRdata_rxq (w : Word) : (s.setRdata w).rxq = s.rxq := rfl
@[simp] theorem State.setRdata_conn (w : Word) : (s.setRdata w).conn = s.conn := rfl
@[simp] theorem State.setRdata_link (w : Word) : (s.setRdata w).link = s.link := rfl
@[simp] theorem State.setRdata_answers (w : Word) : (s.setRdata w).answers = s.answers := rfl
@[simp] theorem State.setRdata_draws (w : Word) : (s.setRdata w).draws = s.draws := rfl
@[simp] theorem State.setRdata_inputs (w : Word) : (s.setRdata w).inputs = s.inputs := rfl
@[simp] theorem State.setRdata_rdata (w : Word) : (s.setRdata w).rdata = w := rfl

end Sys2Proof.Machine
end

