-- ==== Sys2Proof/Laws/Ops.lean ====
section
/-! SUPPORT. What each shared operation can do, said once: reading and overwriting files, issuing, building a
frame, the three transport primitives, failing and finishing. -/

namespace Sys2Proof.Machine

/-! Files. -/

@[simp] theorem readFirst_length {w : Nat} (n : Nat) (file : List (Slot w)) : (readFirst n file).length = n := by
  simp [readFirst]

/-- Within the file, `readFirst` is the bits of the first registers. -/
theorem readFirst_eq_take {w : Nat} {n : Nat} {file : List (Slot w)} (h : n ≤ file.length) :
    readFirst n file = (file.take n).map Slot.bits := by
  apply List.ext_getElem
  · simp [h]
  · intro i h1 h2
    simp only [readFirst_length] at h1
    have : i < file.length := by omega
    simp [readFirst, List.getElem?_eq_getElem this]

@[simp] theorem overwrite_length {α : Type} : ∀ old new : List α, (overwrite old new).length = old.length
  | _, [] => by simp [overwrite]
  | [], _ :: _ => rfl
  | _ :: old, _ :: new => by simp [overwrite, overwrite_length old new]

/-- Where the new values fit, they stand first and the rest is as before. -/
theorem overwrite_eq {α : Type} : ∀ {old new : List α}, new.length ≤ old.length →
    overwrite old new = new ++ old.drop new.length
  | _, [], _ => by simp [overwrite]
  | [], _ :: _, h => by simp at h
  | _ :: old, _ :: new, h => by simp [overwrite, overwrite_eq (old := old) (new := new) (by simpa using h)]

/-! Issue and frame building. -/

/-- A command word is ignored while BUSY = 1 (R33). -/
theorem issue_busy {w : Word} {s : State} {run : State → Result} (h : s.busy = true) :
    issue w s run = .next s := by simp [issue, h]

/-- With BUSY = 0 the operation starts with its word in CMD (R21). -/
theorem issue_idle {w : Word} {s : State} {run : State → Result} (h : s.busy = false) :
    issue w s run = run (s.setCmd w) := by simp [issue, h]

/-- With a payload of at most 255 bytes, FRM and FLEN take the frame and the operation goes on (R27, R102). -/
theorem withFrame_of_le {opc : Byte} {p : List Byte} {s : State} {run : State → Result}
    (h : p.length ≤ 255) :
    withFrame opc p s run =
      run (s.setFrame (overwrite s.frm (frameHead s.cfg opc p ++ [cksum8 (frameHead s.cfg opc p)]))
        (BitVec.ofNat 9 (4 + p.length))) := by
  have hl : (frameHead s.cfg opc p ++ [cksum8 (frameHead s.cfg opc p)]).length = 4 + p.length :=
    buildFrame_length (buildFrame_of_le h)
  simp only [withFrame, buildFrame_of_le h, hl]

/-- PLEN is 8 bits wide, so the payload operand of ENCODE and CALL always has a frame (R22). -/
theorem payloadOperand_length_le (s : State) : (payloadOperand s).length ≤ 255 := by
  have := s.plen.isLt
  simp only [payloadOperand, readFirst_length]; omega

theorem packedOperand_length (f : CmdFields) (s : State) :
    (packedOperand f s).length = f.selen.toNat + 4 * f.nv.toNat := by
  simp [packedOperand, valuesOperand]

/-- NV is 4 bits wide, so the payload of ENCF and XFER always has a frame (R95). -/
theorem packedOperand_length_le (f : CmdFields) (s : State) : (packedOperand f s).length ≤ 255 := by
  have h1 := f.nv.isLt
  have h2 : f.selen.toNat ≤ 1 := Bool.toNat_le f.selen
  rw [packedOperand_length]; omega

/-! The transport. -/

/-- Taking a draw moves only the answers still to come, or the free values' counter. -/
theorem takeDraw_state (s : State) :
    ∃ a n, (takeDraw s).2 = (s.setAnswers a).setDraws n := by
  cases h : s.answers with
  | cons d rest => exact ⟨rest, s.draws, by simp only [takeDraw, h]; rfl⟩
  | nil => exact ⟨s.answers, s.draws + 1, by simp only [takeDraw, h]; rw [← h]; rfl⟩

theorem takeDraw_listed {s : State} {d : Draw} {rest : List Draw} (h : s.answers = d :: rest) :
    takeDraw s = (d, s.setAnswers rest) := by simp [takeDraw, h]

theorem takeDraw_free {s : State} (h : s.answers = []) :
    takeDraw s = (Config.freeDraw s.draws, s.setDraws (s.draws + 1)) := by simp [takeDraw, h]

/-- Everything `TxWrite` can do: ok with all bytes appended, or a fault with the first of them appended and
the connection perhaps gone (R51, R55). -/
theorem txWrite_cases (bytes : List Byte) (s : State) :
    (∃ a n, txWrite bytes s = (true, ((s.setAnswers a).setDraws n).setTxs (s.txs ++ bytes))) ∨
    (∃ a n m b, txWrite bytes s =
      (false, (((s.setAnswers a).setDraws n).setTxs (s.txs ++ bytes.take m)).setConn b)) := by
  unfold txWrite
  split
  · obtain ⟨a, n, h⟩ := takeDraw_state s
    simp only [h]
    split
    · exact .inr ⟨a, n, _, _, rfl⟩
    · exact .inl ⟨a, n, rfl⟩
  · exact .inr ⟨s.answers, s.draws, 0, s.conn, by
      simp only [List.take_zero, List.append_nil]; rfl⟩

/-- Everything `TxFlush` can do: ok, or a fault and the connection perhaps gone; no stream moves (R52, R55). -/
theorem txFlush_cases (s : State) :
    (∃ a n, txFlush s = (true, (s.setAnswers a).setDraws n)) ∨
    (∃ a n b, txFlush s = (false, ((s.setAnswers a).setDraws n).setConn b)) := by
  unfold txFlush
  split
  · obtain ⟨a, n, h⟩ := takeDraw_state s
    simp only [h]
    split
    · exact .inr ⟨a, n, _, rfl⟩
    · exact .inl ⟨a, n, rfl⟩
  · exact .inr ⟨s.answers, s.draws, s.conn, rfl⟩

/-- Everything `RxRead(n)` can do: the first k of RXQ, k at most n, consumed, or a fault with RXQ as it was
and the connection perhaps gone (R53, R54, R55). -/
theorem rxRead_cases (n : Nat) (s : State) :
    (∃ a m k, k ≤ n ∧ rxRead n s =
      (some (s.rxq.take k), ((s.setAnswers a).setDraws m).setRxq (s.rxq.drop k))) ∨
    (∃ a m b, rxRead n s = (none, ((s.setAnswers a).setDraws m).setConn b)) := by
  unfold rxRead
  split
  · exact .inl ⟨s.answers, s.draws, 0, Nat.zero_le n, rfl⟩
  · split
    · obtain ⟨a, m, h⟩ := takeDraw_state s
      simp only [h]
      split
      · exact .inr ⟨a, m, _, rfl⟩
      · exact .inl ⟨a, m, _, Nat.min_le_left _ _, rfl⟩
    · exact .inr ⟨s.answers, s.draws, s.conn, rfl⟩

/-! Ending an exchange. -/

/-- What a failure writes: RBUF, RLEN, for XFER VAL, and the flags; nothing else (R150). -/
theorem fail_eq (st : Status) (s : State) :
    fail st s =
      { s with
        rbuf := overwrite s.rbuf (List.replicate (replySize s) (Slot.put 0))
        rlen := BitVec.ofNat 8 (replySize s)
        val := if transferring s then overwrite s.val (List.replicate (arityInFlight s) (Slot.put pzero))
          else s.val
        ok := decide (st = .ok)
        status := st
        busy := false
        phase := .idle } := by
  have ht : transferring (putReply (List.replicate (replySize s) 0) s) = transferring s := rfl
  have ha : arityInFlight (putReply (List.replicate (replySize s) 0) s) = arityInFlight s := rfl
  unfold fail
  simp only [ht, ha]
  cases transferring s <;>
    simp [complete, putReply, putValues, State.setReply, State.setVal, State.setStatus, State.setPhase]

/-- What a full read writes: RBUF, RLEN, for XFER VAL, and the flags; nothing else (R120, R126). -/
theorem finish_eq (r : List Byte) (s : State) :
    finish r s =
      { s with
        rbuf := overwrite s.rbuf (r.map Slot.put)
        rlen := BitVec.ofNat 8 r.length
        val := if transferring s then overwrite s.val ((wordsOf r).map Slot.put) else s.val
        ok := true
        status := .ok
        busy := false
        phase := .idle } := by
  have ht : transferring (putReply r s) = transferring s := rfl
  unfold finish deliver
  simp only [ht]
  cases transferring s <;>
    simp [complete, putReply, putValues, State.setReply, State.setVal, State.setStatus, State.setPhase]

end Sys2Proof.Machine
end

