-- ==== Sys2Proof/Laws/Exec.lean ====
section
/-! SUPPORT. What each meaning answers, by the state it starts in: one lemma per case of the rule it follows,
so that a proof cites it and never unfolds the meaning. -/

namespace Sys2Proof.Machine

variable {s : State} {f : CmdFields}

/-- FRM and FLEN with the frame of a wire opcode and a payload in them. -/
def framed (opc : Byte) (p : List Byte) (s : State) : State :=
  s.setFrame (overwrite s.frm (frameHead s.cfg opc p ++ [cksum8 (frameHead s.cfg opc p)]))
    (BitVec.ofNat 9 (4 + p.length))

/-! Issued while BUSY = 1, every command word is ignored (R33). -/

theorem execEncode_busy (h : s.busy = true) : execEncode f s = .next s := issue_busy h
theorem execEncf_busy (h : s.busy = true) : execEncf f s = .next s := issue_busy h
theorem execDecf_busy (h : s.busy = true) : execDecf f s = .next s := issue_busy h
theorem execCall_busy (h : s.busy = true) : execCall f s = .next s := issue_busy h
theorem execXfer_busy (h : s.busy = true) : execXfer f s = .next s := issue_busy h
theorem execReservedOp0_busy (h : s.busy = true) : execReservedOp0 f s = .next s := issue_busy h
theorem execReservedOp6_busy (h : s.busy = true) : execReservedOp6 f s = .next s := issue_busy h
theorem execReservedOp7_busy (h : s.busy = true) : execReservedOp7 f s = .next s := issue_busy h
theorem execReservedRsv_busy {rsv : BitVec 4} {op : BitVec 3} (h : s.busy = true) :
    execReservedRsv rsv op f s = .next s := issue_busy h

/-! Issued with BUSY = 0. -/

/-- R103. -/
theorem execEncode_idle (h : s.busy = false) :
    execEncode f s =
      .next (succeed (framed f.opc (payloadOperand s) (s.setCmd (commandWord 0 1 f)))) := by
  rw [execEncode, issue_idle h, withFrame_of_le (payloadOperand_length_le _)]; rfl

/-- R105. -/
theorem execEncf_idle (h : s.busy = false) (hn : f.nv.toNat ≤ s.cfg.maxValues.val) :
    execEncf f s =
      .next (succeed (framed f.opc (packedOperand f s) (s.setCmd (commandWord 0 2 f)))) := by
  rw [execEncf, issue_idle h, if_neg (by simpa using hn), withFrame_of_le (packedOperand_length_le _ _)]
  rfl

/-- R93 (3), R147. -/
theorem execEncf_refused (h : s.busy = false) (hn : s.cfg.maxValues.val < f.nv.toNat) :
    execEncf f s = .next (refuse (s.setCmd (commandWord 0 2 f))) := by
  rw [execEncf, issue_idle h, if_pos (by simpa using hn)]

/-- R107, `RLEN = 4*AR`. -/
theorem execDecf_match (h : s.busy = false) (hn : f.ar.toNat ≤ s.cfg.maxValues.val)
    (hl : s.rlen.toNat = 4 * f.ar.toNat) :
    execDecf f s =
      .next (succeed (putValues (wordsOf (rawOperand f s)) (s.setCmd (commandWord 0 3 f)))) := by
  rw [execDecf, issue_idle h, if_neg (by simpa using hn), if_pos (by simpa using hl)]; rfl

/-- R107, any other RLEN. -/
theorem execDecf_mismatch (h : s.busy = false) (hn : f.ar.toNat ≤ s.cfg.maxValues.val)
    (hl : s.rlen.toNat ≠ 4 * f.ar.toNat) :
    execDecf f s =
      .next ((putValues (List.replicate f.ar.toNat pzero)
        (s.setCmd (commandWord 0 3 f))).setStatus .lenMismatch) := by
  rw [execDecf, issue_idle h, if_neg (by simpa using hn), if_neg (by simpa using hl)]

/-- R93 (4), R147. -/
theorem execDecf_refused (h : s.busy = false) (hn : s.cfg.maxValues.val < f.ar.toNat) :
    execDecf f s = .next (refuse (s.setCmd (commandWord 0 3 f))) := by
  rw [execDecf, issue_idle h, if_pos (by simpa using hn)]

/-- R120, R121 row 1. -/
theorem execCall_idle (h : s.busy = false) (hn : s.exp.toNat ≤ s.cfg.rxMax) :
    execCall f s =
      .next ((framed f.opc (payloadOperand s) (s.setCmd (commandWord 0 4 f))).setPhase .tx) := by
  rw [execCall, issue_idle h, if_neg (by simpa using hn), withFrame_of_le (payloadOperand_length_le _)]; rfl

/-- R93 (5), R147. -/
theorem execCall_refused (h : s.busy = false) (hn : s.cfg.rxMax < s.exp.toNat) :
    execCall f s = .next (refuse (s.setCmd (commandWord 0 4 f))) := by
  rw [execCall, issue_idle h, if_pos (by simpa using hn)]

/-- R126, R121 row 1. -/
theorem execXfer_idle (h : s.busy = false) (hn : f.nv.toNat ≤ s.cfg.maxValues.val)
    (ha : f.ar.toNat ≤ s.cfg.maxValues.val) :
    execXfer f s =
      .next ((framed f.opc (packedOperand f s) (s.setCmd (commandWord 0 5 f))).setPhase .tx) := by
  rw [execXfer, issue_idle h, if_neg (by simpa using hn), if_neg (by simpa using ha),
    withFrame_of_le (packedOperand_length_le _ _)]
  rfl

/-- R93 (3) and (4), R147. -/
theorem execXfer_refused (h : s.busy = false)
    (hn : s.cfg.maxValues.val < f.nv.toNat ∨ s.cfg.maxValues.val < f.ar.toNat) :
    execXfer f s = .next (refuse (s.setCmd (commandWord 0 5 f))) := by
  rw [execXfer, issue_idle h]
  by_cases h1 : s.cfg.maxValues.val < f.nv.toNat
  · rw [if_pos (by simpa using h1)]
  · rw [if_neg (by simpa using h1), if_pos (by simpa using hn.resolve_left h1)]

theorem execReservedOp0_idle (h : s.busy = false) :
    execReservedOp0 f s = .next (refuse (s.setCmd (commandWord 0 0 f))) := issue_idle h
theorem execReservedOp6_idle (h : s.busy = false) :
    execReservedOp6 f s = .next (refuse (s.setCmd (commandWord 0 6 f))) := issue_idle h
theorem execReservedOp7_idle (h : s.busy = false) :
    execReservedOp7 f s = .next (refuse (s.setCmd (commandWord 0 7 f))) := issue_idle h
theorem execReservedRsv_idle {rsv : BitVec 4} {op : BitVec 3} (h : s.busy = false) :
    execReservedRsv rsv op f s = .next (refuse (s.setCmd (commandWord rsv op f))) := issue_idle h

/-! The wire steps. -/

variable {opc ck : Byte} {p bytes : List Byte}

/-- The sequencer has no FRAME arrow outside TX (R121). -/
theorem execFrame_elsewhere (h : s.phase ≠ .tx) : execFrame opc p ck s = .next s := by
  rw [execFrame, if_pos h]

/-- Over 255 payload bytes there is no frame (R104). -/
theorem execFrame_tooLong (h : s.phase = .tx) (hp : 255 < p.length) :
    execFrame opc p ck s = .refused .payloadTooLong := by
  rw [execFrame, if_neg (by simpa using h), if_pos (by simpa [maxPayload] using hp)]

/-- At TX the frame goes to `TxWrite` (R121). -/
theorem execFrame_tx (h : s.phase = .tx) (hp : p.length ≤ 255) :
    execFrame opc p ck s =
      match txWrite (frameHead s.cfg opc p ++ [ck]) s with
      | (true, s) => .next (s.setPhase .flush)
      | (false, s) => .next (fail .transportFault s) :=
  (if_neg (by simpa using h)).trans (if_neg (by simpa [maxPayload] using hp))

/-- The sequencer has no REPLY arrow outside RX (R121). -/
theorem execReply_elsewhere (h : s.phase ≠ .rx) : execReply bytes s = .next s := by
  rw [execReply, if_pos h]

/-- Fewer bytes than asked for (R141). -/
theorem execReply_short (h : s.phase = .rx) (hl : bytes.length < replySize s) :
    execReply bytes s = .next (fail .shortRead s) := by
  rw [execReply, if_neg (by simpa using h), if_pos hl]

/-- Exactly the bytes asked for (R120 step 4). -/
theorem execReply_full (h : s.phase = .rx) (hl : bytes.length = replySize s) :
    execReply bytes s = .next (finish bytes s) := by
  rw [execReply, if_neg (by simpa using h), if_neg (by omega)]
  simp only [← hl, List.take_length, List.drop_length, List.nil_append]
  rfl

/-! The sequencer and the step. -/

theorem step_idle (hi : s.inputs = []) (h : s.phase = .idle) : step s = .next s := by
  simp [step, turn, hi, advance, h]

theorem step_tx (hi : s.inputs = []) (h : s.phase = .tx) : step s = sendStep s := by
  simp [step, turn, hi, advance, h]

theorem step_flush (hi : s.inputs = []) (h : s.phase = .flush) : step s = .next (flushStep s) := by
  simp [step, turn, hi, advance, h]

theorem step_rx (hi : s.inputs = []) (h : s.phase = .rx) : step s = readStep s := by
  simp [step, turn, hi, advance, h]

theorem step_input {i : Input} {rest : List Input} (hi : s.inputs = i :: rest) :
    step s = land i (s.setInputs rest) := by
  simp [step, turn, hi]

/-- Everything the RX step can do (R121): a hard fault, a short read, or a full read. -/
theorem readStep_eq (s : State) :
    readStep s =
      match rxRead (replySize s) s with
      | (none, t) => .next (fail .transportFault t)
      | (some bytes, t) => execReply bytes t := by
  unfold readStep
  rcases rxRead (replySize s) s with ⟨_ | bytes, t⟩ <;> rfl

end Sys2Proof.Machine
end

