-- ==== Sys2Proof/Laws/HostPort.lean ====
section
/-! SUPPORT. The register map row by row (10_state R32), and its inversion: which offset a register has. -/

namespace Sys2Proof.Machine

variable {c : Config} {i offset : Nat}

@[simp] theorem regAt_cmd : regAt c 0x000 = some .cmd := rfl
@[simp] theorem regAt_plen : regAt c 0x004 = some .plen := rfl
@[simp] theorem regAt_exp : regAt c 0x008 = some .exp := rfl
@[simp] theorem regAt_stat : regAt c 0x00C = some .stat := rfl
@[simp] theorem regAt_rlen : regAt c 0x010 = some .rlen := rfl
@[simp] theorem regAt_flen : regAt c 0x014 = some .flen := rfl

/-- Past the six single registers the map goes by ranges. -/
theorem regAt_ranges (h : 0x014 < offset) :
    regAt c offset =
      if 0x040 ≤ offset ∧ offset < 0x040 + 4 * mappedValues c ∧ offset % 4 = 0 then
        some (.val ((offset - 0x040) / 4))
      else if 0x100 ≤ offset ∧ offset < 0x100 + 255 then some (.pay (offset - 0x100))
      else if 0x200 ≤ offset ∧ offset < 0x200 + c.rxMax then some (.rbuf (offset - 0x200))
      else if 0x300 ≤ offset ∧ offset < 0x300 + maxFrame then some (.frm (offset - 0x300))
      else none := by
  rw [regAt, if_neg (by omega), if_neg (by omega), if_neg (by omega), if_neg (by omega),
    if_neg (by omega), if_neg (by omega)]

theorem mappedValues_le (c : Config) : mappedValues c ≤ 48 := Nat.min_le_right _ _

theorem rxMax_le (c : Config) : c.rxMax ≤ 252 := by
  have := c.maxValues.isLt
  unfold Config.rxMax; omega

theorem regAt_val (h : i < mappedValues c) : regAt c (0x040 + 4 * i) = some (.val i) := by
  rw [regAt_ranges (by omega), if_pos (by omega)]
  congr 2; omega

theorem regAt_pay (h : i < 255) : regAt c (0x100 + i) = some (.pay i) := by
  have := mappedValues_le c
  rw [regAt_ranges (by omega), if_neg (by omega), if_pos (by omega), Nat.add_sub_cancel_left]

theorem regAt_rbuf (h : i < c.rxMax) : regAt c (0x200 + i) = some (.rbuf i) := by
  have := mappedValues_le c
  rw [regAt_ranges (by omega), if_neg (by omega), if_neg (by omega), if_pos (by omega), Nat.add_sub_cancel_left]

theorem regAt_frm (h : i < maxFrame) : regAt c (0x300 + i) = some (.frm i) := by
  have := mappedValues_le c
  have := rxMax_le c
  rw [regAt_ranges (by omega), if_neg (by omega), if_neg (by omega), if_neg (by omega),
    if_pos (by omega), Nat.add_sub_cancel_left]

/-- Where each register stands: the map read backwards. -/
theorem regAt_some {r : HostReg} (h : regAt c offset = some r) :
    match r with
    | .cmd => offset = 0x000
    | .plen => offset = 0x004
    | .exp => offset = 0x008
    | .stat => offset = 0x00C
    | .rlen => offset = 0x010
    | .flen => offset = 0x014
    | .val i => i < mappedValues c ∧ offset = 0x040 + 4 * i
    | .pay i => i < 255 ∧ offset = 0x100 + i
    | .rbuf i => i < c.rxMax ∧ offset = 0x200 + i
    | .frm i => i < maxFrame ∧ offset = 0x300 + i := by
  unfold regAt at h
  split at h
  · cases h; assumption
  split at h
  · cases h; assumption
  split at h
  · cases h; assumption
  split at h
  · cases h; assumption
  split at h
  · cases h; assumption
  split at h
  · cases h; assumption
  split at h
  · cases h; show _ ∧ _; omega
  split at h
  · cases h; show _ ∧ _; omega
  split at h
  · cases h; show _ ∧ _; omega
  split at h
  · cases h; show _ ∧ _; omega
  · cases h

end Sys2Proof.Machine
end

