-- ==== Sys2Proof/Laws/Invariant.lean ====
section
/-! SUPPORT. The invariant taken apart, and the small updates that keep it. -/

namespace Sys2Proof.Machine

variable {s t : State}

/-- The invariant as a conjunction of propositions. -/
theorem State.wf_iff (s : State) :
    s.wf = true ↔
      s.pay.length = 255 ∧ s.val.length = s.cfg.maxValues.val ∧ s.rbuf.length = s.cfg.rxMax ∧
        s.frm.length = 259 ∧ s.flen.toNat ≤ 259 ∧ s.ok = decide (s.status = .ok) ∧
        s.busy = decide (s.phase ≠ .idle) ∧ s.frameOk = true ∧
        (s.busy = true → s.flen ≠ 0 ∧ s.inFlightOk = true) := by
  have hm : maxFrame = 259 := rfl
  simp only [State.wf, Bool.and_eq_true, decide_eq_true_eq, beq_iff_eq, Bool.or_eq_true,
    Bool.not_eq_true', bne_iff_ne, and_assoc, hm]
  constructor
  · rintro ⟨a, b, c, d, e, f, g, h, i⟩
    exact ⟨a, b, c, d, e, f, g, h, fun hb => i.resolve_left (by simp [hb])⟩
  · rintro ⟨a, b, c, d, e, f, g, h, i⟩
    refine ⟨a, b, c, d, e, f, g, h, ?_⟩
    cases hb : s.busy
    · exact .inl rfl
    · exact .inr (i hb)

theorem State.wf_ok (hw : s.wf = true) : s.ok = decide (s.status = .ok) :=
  ((State.wf_iff s).mp hw).2.2.2.2.2.1

/-- With BUSY = 0 the sequencer is at IDLE (R35). -/
theorem State.wf_idle (hw : s.wf = true) (hb : s.busy = false) : s.phase = .idle := by
  have := ((State.wf_iff s).mp hw).2.2.2.2.2.2.1
  rw [hb] at this; simpa using this.symm

/-- Away from IDLE the block is busy (R35). -/
theorem State.wf_busy (hw : s.wf = true) (hp : s.phase ≠ .idle) : s.busy = true := by
  have := ((State.wf_iff s).mp hw).2.2.2.2.2.2.1
  rw [this]; simpa using hp

/-- A state at IDLE with the files' lengths and the frame of one that meets the invariant meets it. -/
theorem State.wf_of_idle (hw : s.wf = true) (hcfg : t.cfg = s.cfg) (hpay : t.pay.length = s.pay.length)
    (hval : t.val.length = s.val.length) (hrbuf : t.rbuf.length = s.rbuf.length) (hfrm : t.frm = s.frm)
    (hflen : t.flen = s.flen) (hok : t.ok = decide (t.status = .ok)) (hb : t.busy = false)
    (hp : t.phase = .idle) : t.wf = true := by
  have h := (State.wf_iff s).mp hw
  have hfo : t.frameOk = s.frameOk := by simp only [State.frameOk, frameOperand, hcfg, hfrm, hflen]
  rw [State.wf_iff, hcfg, hpay, hval, hrbuf, hfrm, hflen, hfo, hb, hp]
  exact ⟨h.1, h.2.1, h.2.2.1, h.2.2.2.1, h.2.2.2.2.1, hok, rfl, h.2.2.2.2.2.2.2.1, by simp⟩

/-- In flight, FRM holds a frame the decoder reads, with the frame's own fields (R86). -/
theorem State.wf_frame (hw : s.wf = true) (hb : s.busy = true) :
    ∃ opc p ck, p.length ≤ 255 ∧ frameOperand s = frameHead s.cfg opc p ++ [ck] ∧
      decode s.cfg .request (frameOperand s) = .ok (.frame opc p ck) := by
  have h := (State.wf_iff s).mp hw
  have hfo := h.2.2.2.2.2.2.2.1
  simp only [State.frameOk] at hfo
  cases hd : decode s.cfg .request (frameOperand s) with
  | rejected r =>
    rw [hd] at hfo
    simp only [Bool.or_false, beq_iff_eq] at hfo
    exact absurd hfo (h.2.2.2.2.2.2.2.2 hb).1
  | ok i =>
    obtain ⟨opc, p, ck, rfl, hpl, hbs⟩ := decodeRequest_ok hd
    exact ⟨opc, p, ck, hpl, hbs, rfl⟩

end Sys2Proof.Machine
end

