-- ==== Sys2Proof/Laws/Observe.lean ====
section
/-! SUPPORT. What a step adds to what a run shows. -/

namespace Sys2Proof.Machine

variable {s t : State} {i : Input} {rest : List Input} {k : Nat}

/-- With no move listed an operation completes where an exchange ends. -/
theorem completes_block (h : s.inputs = []) : completes s t = (s.busy && !t.busy) := by
  rw [completes, h]

/-- An issue completes its operation unless an exchange starts or is under way. -/
theorem completes_issue (h : s.inputs = i :: rest) (hi : i.issues = true) : completes s t = (!t.busy && !s.busy) := by
  simp only [completes, h, hi, if_true]

/-- A reset completes nothing (R171). -/
theorem completes_reset (h : s.inputs = .reset :: rest) : completes s t = false := by
  simp [completes, h, Input.issues]

/-- A step that answers a next state shows the operation it completes, then what comes after. -/
theorem observe_next (h : step s = .next t) :
    observe (k + 1) s =
      { sent := (observe k t).sent
        results := (if completes s t then [resultOf t] else []) ++ (observe k t).results } := by
  rw [observe, h]

/-- An idle block with no move listed shows what it has sent, and no further result. -/
theorem observe_idle (hi : s.inputs = []) (hp : s.phase = .idle) (hb : s.busy = false) :
    observe k s = { sent := s.txs, results := [] } := by
  have hs : step s = .next s := by simp only [step, turn, hi, advance, hp]
  induction k with
  | zero => rfl
  | succ k ih => rw [observe_next hs, ih, completes_block hi, hb]; rfl

/-- After a refusal or a reset there is no operation whose results the host could read (R147, R41). -/
theorem lastOperation_refused (h : s.status = .refused) : lastOperation s = none := if_pos h

/-- Otherwise it is the one whose word CMD holds (R21). -/
theorem lastOperation_of (h : s.status ≠ .refused) : lastOperation s = some (decodeWord s.cmd) := if_neg h

/-- A step that completes an operation makes its result the last one. -/
theorem resultAfter_completes {last : Option OpResult} (h : completes s t = true) :
    resultAfter last s t = some (resultOf t) := by
  rw [resultAfter, if_pos h]

/-- Any other step but a reset leaves the last result as it was. -/
theorem resultAfter_other {last : Option OpResult} (h : completes s t = false) (hr : s.inputs.head? ≠ some .reset) :
    resultAfter last s t = last := by
  rw [resultAfter, if_neg (by simp [h]), if_neg hr]

/-- After a reset no result is known. -/
theorem resultAfter_reset {last : Option OpResult} (h : s.inputs = .reset :: rest) : resultAfter last s t = none := by
  simp [resultAfter, completes_reset h, h]

end Sys2Proof.Machine
end

