-- ==== Sys2Proof/Laws/PerInstr.lean ====
section
/-! SUPPORT. A family of lemmas per constructor of Instr: how many bytes its encoding has. -/

namespace Sys2Proof.Laws

/-- How many bytes an instruction has at its port: a command word four (30_encoding R90), a frame four and
its payload (R80), a reply its own bytes (R87). -/
def encodedSize : Instr → Nat
  | .encode _ => 4
  | .encf _ => 4
  | .decf _ => 4
  | .call _ => 4
  | .xfer _ => 4
  | .reservedOp0 _ => 4
  | .reservedOp6 _ => 4
  | .reservedOp7 _ => 4
  | .reservedRsv _ _ _ => 4
  | .frame _ payload _ => 4 + payload.length
  | .reply bytes => bytes.length

/-- The encoder writes exactly that many bytes, whatever START_BYTE is. -/
def EncodedSize.Statement (i : Instr) : Prop := ∀ c : Config, (Sys2Proof.encode c i).length = encodedSize i

theorem EncodedSize.encode (f : CmdFields) : EncodedSize.Statement (.encode f) := fun _ => rfl
theorem EncodedSize.encf (f : CmdFields) : EncodedSize.Statement (.encf f) := fun _ => rfl
theorem EncodedSize.decf (f : CmdFields) : EncodedSize.Statement (.decf f) := fun _ => rfl
theorem EncodedSize.call (f : CmdFields) : EncodedSize.Statement (.call f) := fun _ => rfl
theorem EncodedSize.xfer (f : CmdFields) : EncodedSize.Statement (.xfer f) := fun _ => rfl
theorem EncodedSize.reservedOp0 (f : CmdFields) : EncodedSize.Statement (.reservedOp0 f) := fun _ => rfl
theorem EncodedSize.reservedOp6 (f : CmdFields) : EncodedSize.Statement (.reservedOp6 f) := fun _ => rfl
theorem EncodedSize.reservedOp7 (f : CmdFields) : EncodedSize.Statement (.reservedOp7 f) := fun _ => rfl
theorem EncodedSize.reservedRsv (rsv : BitVec 4) (op : BitVec 3) (f : CmdFields) :
    EncodedSize.Statement (.reservedRsv rsv op f) := fun _ => rfl
theorem EncodedSize.frame (opc : Byte) (payload : List Byte) (checksum : Byte) :
    EncodedSize.Statement (.frame opc payload checksum) := by
  intro c
  simp only [Sys2Proof.encode, encodedSize, List.length_append, frameHead_length, List.length_cons,
    List.length_nil]
  omega
theorem EncodedSize.reply (bytes : List Byte) : EncodedSize.Statement (.reply bytes) := fun _ => rfl

end Sys2Proof.Laws
end

