-- ==== Sys2Proof/Laws/Words.lean ====
section
/-! SUPPORT. The command word and the byte order by numbers: slices as quotients, concatenations as sums, and
the word of given fields read back. -/

namespace Sys2Proof

theorem slice_toNat {k : Nat} (w : BitVec k) (a n : Nat) :
    (w.extractLsb' a n).toNat = w.toNat / 2 ^ a % 2 ^ n := by
  simp [BitVec.extractLsb'_toNat, Nat.shiftRight_eq_div_pow]

theorem append_toNat {n m : Nat} (x : BitVec n) (y : BitVec m) :
    (x ++ y).toNat = x.toNat * 2 ^ m + y.toNat := by
  rw [BitVec.toNat_append, ← Nat.shiftLeft_add_eq_or_of_lt y.isLt, Nat.shiftLeft_eq]

theorem fromLe32_toNat (b0 b1 b2 b3 : Byte) :
    (fromLe32 b0 b1 b2 b3).toNat =
      b0.toNat + 256 * b1.toNat + 65536 * b2.toNat + 16777216 * b3.toNat := by
  have := b0.isLt; have := b1.isLt; have := b2.isLt; have := b3.isLt
  simp only [fromLe32, BitVec.toNat_ofNat]; omega

/-- A command word as the sum of its fields at their places (R90). -/
theorem commandWord_toNat (rsv : BitVec 4) (op : BitVec 3) (f : CmdFields) :
    (commandWord rsv op f).toNat =
      op.toNat + 8 * f.selen.toNat + 16 * f.nv.toNat + 2 ^ 8 * f.opc.toNat + 2 ^ 16 * f.sel.toNat +
        2 ^ 24 * f.ar.toNat + 2 ^ 28 * rsv.toNat := by
  simp only [commandWord, append_toNat, BitVec.toNat_ofBool]
  omega

/-- A bit as a number. -/
theorem getLsbD_toNat {k : Nat} (w : BitVec k) (a : Nat) : w.getLsbD a = decide (w.toNat / 2 ^ a % 2 = 1) := by
  simp [BitVec.getLsbD, Nat.testBit_eq_decide_div_mod_eq]

/-- The fields a command word was laid out from are the fields it reads as. -/
theorem cmdFields_commandWord (rsv : BitVec 4) (op : BitVec 3) (f : CmdFields) :
    (commandWord rsv op f).extractLsb' 28 4 = rsv ∧ (commandWord rsv op f).extractLsb' 0 3 = op ∧
      cmdFields (commandWord rsv op f) = f := by
  have h := commandWord_toNat rsv op f
  have h1 := f.nv.isLt; have h2 := f.opc.isLt; have h3 := f.sel.isLt; have h4 := f.ar.isLt
  have h5 := rsv.isLt; have h6 := op.isLt; have h7 := Bool.toNat_lt f.selen
  refine ⟨?_, ?_, ?_⟩
  · apply BitVec.eq_of_toNat_eq; rw [slice_toNat]; omega
  · apply BitVec.eq_of_toNat_eq; rw [slice_toNat]; omega
  · obtain ⟨selen, nv, opc, sel, ar⟩ := f
    simp only [cmdFields, CmdFields.mk.injEq] at *
    refine ⟨?_, ?_, ?_, ?_, ?_⟩
    · rw [getLsbD_toNat, h]
      cases selen <;> simp <;> omega
    all_goals apply BitVec.eq_of_toNat_eq; rw [slice_toNat]; omega

/-- A command word reads back as the row of its RSV and OP. -/
theorem decodeWord_commandWord (rsv : BitVec 4) (op : BitVec 3) (f : CmdFields) :
    decodeWord (commandWord rsv op f) = if rsv = 0 then ofOp op f else .reservedRsv rsv op f := by
  obtain ⟨h1, h2, h3⟩ := cmdFields_commandWord rsv op f
  rw [decodeWord, h1, h2, h3]

/-- Every word is the command word of its own fields. -/
theorem commandWord_cmdFields (w : Word) :
    commandWord (w.extractLsb' 28 4) (w.extractLsb' 0 3) (cmdFields w) = w := by
  apply BitVec.eq_of_toNat_eq
  have hs : (w.getLsbD 3).toNat = w.toNat / 8 % 2 := by
    rw [getLsbD_toNat]
    by_cases h : w.toNat / 2 ^ 3 % 2 = 1
    · rw [decide_eq_true h]; exact h.symm
    · rw [decide_eq_false h]; show 0 = _; omega
  rw [commandWord_toNat]
  simp only [cmdFields, slice_toNat, hs]
  have := w.isLt; omega

end Sys2Proof
end

