-- ==== Sys2Proof/Tests/Slice0.lean ====
section
/-! SUPPORT. The model's own tests: words and outcomes of 95_test_vectors, each row named, at most one step each;
the ill-formed terms that WellFormed refuses; and for every obligation with hypotheses a state and operands
that meet them all. -/

namespace Sys2Proof.Tests

open Sys2Proof.Machine Sys2Proof.Claims

/-! Helpers. -/

/-- The next state, or the reset state where there is none. -/
def after (r : Result) : State :=
  match r with
  | .next t => t
  | .fault _ => State.reset
  | .refused _ => State.reset

/-- Whether a next state is answered that satisfies a test. -/
def shows (r : Result) (p : State → Bool) : Bool :=
  match r with
  | .next t => p t
  | .fault _ => false
  | .refused _ => false

/-- Whether an instruction is answered that the row's test accepts. -/
def reads (d : Decoded Instr) (p : Instr → Bool) : Bool :=
  match d with
  | .ok i => p i
  | .rejected _ => false

theorem next_of_shows {r : Result} {p : State → Bool} (h : shows r p = true) :
    r = .next (after r) ∧ p (after r) = true := by
  cases r with
  | next t => exact ⟨rfl, h⟩
  | fault _ => cases h
  | refused _ => cases h

/-- A transport that answers ok and has all bytes. -/
def fine : Draw := { fault := false, sent := 0, drop := false, got := 255 }

/-- A transport that faults after two bytes and drops the connection. -/
def broken : Draw := { fault := true, sent := 2, drop := true, got := 255 }

/-- A transport that answers ok but has only eight bytes. -/
def slow : Draw := { fault := false, sent := 0, drop := false, got := 8 }

/-- `V9` and its bytes `B9` (95_test_vectors 2.3). -/
def v9 : List Word :=
  [0x3DCCCCCD, 0xBE4CCCCD, 0x40400000, 0x00000000, 0x00000000, 0x411CF5C3, 0x3F000000, 0xBF800000, 0x40000000]

def b9 : List Byte :=
  [0xCD, 0xCC, 0xCC, 0x3D, 0xCD, 0xCC, 0x4C, 0xBE, 0x00, 0x00, 0x40, 0x40] ++
    [0x00, 0x00, 0x00, 0x00, 0x00, 0x00, 0x00, 0x00, 0xC3, 0xF5, 0x1C, 0x41] ++
    [0x00, 0x00, 0x00, 0x3F, 0x00, 0x00, 0x80, 0xBF, 0x00, 0x00, 0x00, 0x40]

/-- The bytes of (0.1, -0.2, 3.0), scenario S5. -/
def b3 : List Byte := b9.take 12

/-- The block after reset, with V9 in VAL, B9 in RBUF, a five-byte payload, and a connected transport that
answers ok and holds B9. -/
def loaded : State :=
  { State.reset with
    plen := 5
    exp := 36
    pay := [0x00, 0xCD, 0xCC, 0x4C, 0x3D].map Slot.put ++ List.replicate 250 .blank
    val := v9.map Slot.put
    rbuf := b9.map Slot.put
    rlen := 36
    conn := true
    link := some ⟨8, 115200, 100⟩
    rxq := b9
    answers := List.replicate 6 fine }

/-- Fields with an opcode and counts, no selector. -/
def fields (opc : Byte) (nv ar : BitVec 4) : CmdFields := { selen := false, nv := nv, opc := opc, sel := 0, ar := ar }

/-- `XFER 12, -, (), 3` in flight at each phase. -/
def atTx : State := after (exec (.xfer (fields 0x12 0 3)) loaded)
def atFlush : State := after (step atTx)
def atRx : State := after (step atFlush)

/-- `CALL 22, [00 CD CC 4C 3D], 00` at RX. -/
def atRxNone : State := after (step (after (step (after (exec (.call (fields 0x22 0 0)) { loaded with exp := 0 })))))

/-! Decoding: words and frames the spec writes out (95_test_vectors 2.2 to 2.7), laid out from R90 and R80. -/

theorem test_decode_encode_word : decodeWord 0x0AFF10F9 = .encode ⟨true, 15, 0x10, 0xFF, 10⟩ := by decide
theorem test_decode_encf_word : decodeWord 0x000022A2 = .encf ⟨false, 10, 0x22, 0, 0⟩ := by decide
theorem test_decode_decf_word : decodeWord 0x0A000003 = .decf ⟨false, 0, 0, 0, 10⟩ := by decide
theorem test_decode_call_word : decodeWord 0x0A002204 = .call ⟨false, 0, 0x22, 0, 10⟩ := by decide
theorem test_decode_xfer_word : decodeWord 0x0100221D = .xfer ⟨true, 1, 0x22, 0, 1⟩ := by decide
theorem test_decode_op0_word : decodeWord 0x00000000 = .reservedOp0 ⟨false, 0, 0, 0, 0⟩ := by decide
theorem test_decode_op6_word : decodeWord 0x00000006 = .reservedOp6 ⟨false, 0, 0, 0, 0⟩ := by decide
theorem test_decode_op7_word : decodeWord 0x00000007 = .reservedOp7 ⟨false, 0, 0, 0, 0⟩ := by decide
theorem test_decode_rsv_word : decodeWord 0x10001001 = .reservedRsv 1 1 ⟨false, 0, 0x10, 0, 0⟩ := by decide
/-- S7's frame, and its bytes one by one: start, opcode, length 5, selector, 0.05, checksum. -/
theorem test_decode_frame_bytes :
    decode .standard .request [0xBB, 0x22, 0x05, 0x00, 0xCD, 0xCC, 0x4C, 0x3D, 0x04] =
      .ok (.frame 0x22 [0x00, 0xCD, 0xCC, 0x4C, 0x3D] 0x04) := by decide
theorem test_decode_reply_bytes :
    decode .standard .reply [0x00, 0x00, 0x80, 0x3F] = .ok (.reply [0x00, 0x00, 0x80, 0x3F]) := by decide

/-- What each port's decoder refuses, by name. -/
theorem test_decode_refusals :
    decode .standard .command [0x01, 0x10, 0x00] = .rejected .notOneWord ∧
    decode .standard .request [0xBB, 0x10] = .rejected .frameTooShort ∧
    decode .standard .request [0xAA, 0x10, 0x00, 0xBA] = .rejected .badStartByte ∧
    decode .standard .request [0xBB, 0x10, 0x04, 0xDE, 0xAD] = .rejected .frameCut ∧
    decode .standard .request [0xBB, 0x10, 0x00, 0xCB, 0x00] = .rejected .trailingBytes := by decide

/-! WellFormed: each check refuses a term, and a well-formed neighbour passes. -/

theorem test_wellFormed_rsv :
    (Instr.reservedRsv 0 1 (fields 0x10 0 0)).wellFormed .standard = false ∧
    (Instr.reservedRsv 1 1 (fields 0x10 0 0)).wellFormed .standard = true := by decide
theorem test_wellFormed_frame_checksum :
    (Instr.frame 0x10 [] 0x10).wellFormed .standard = false ∧
    (Instr.frame 0x10 [] 0xCB).wellFormed .standard = true := by decide
theorem test_wellFormed_frame_length :
    (Instr.frame 0x7E (List.replicate 256 1) (cksum8 (frameHead .standard 0x7E (List.replicate 256 1)))).wellFormed
      .standard = false ∧
    (Instr.frame 0x7E (List.replicate 255 1) 0x37).wellFormed .standard = true := by decide +kernel
theorem test_wellFormed_reply_whole :
    (Instr.reply [0, 0, 0]).wellFormed .standard = false ∧
    (Instr.reply [0, 0, 0, 0]).wellFormed .standard = true := by decide
theorem test_wellFormed_reply_length :
    (Instr.reply (List.replicate 40 0)).wellFormed .standard = false ∧
    (Instr.reply (List.replicate 36 0)).wellFormed .standard = true := by decide +kernel

/-! cksum8 (95_test_vectors 2.1). -/

theorem test_cksum8_wraps : cksum8 [0xBB, 0x45, 0x00] = 0x00 ∧ cksum8 [0xBB, 0x46, 0x00] = 0x01 := by decide
theorem test_cksum8_longest : cksum8 ([0xBB, 0xFF, 0xFF] ++ List.replicate 255 0xFF) = 0xBA := by decide +kernel

/-! One step per row: the word is fetched and run as the first instruction after reset, then per row a vector
of 95_test_vectors Part 2. -/

/-- The command words: stored in CMD, and OK or STATUS as the rows of 2.2 to 2.7 say. -/
theorem test_fetch_command_words :
    shows (step (State.reset.withFetchWord 32 0x00001001)) (fun t => t.cmd == 0x00001001 && t.ok) = true ∧
    shows (step (State.reset.withFetchWord 32 0x00001202)) (fun t => t.cmd == 0x00001202 && t.ok) = true ∧
    shows (step (State.reset.withFetchWord 32 0x00000003)) (fun t => t.cmd == 0x00000003 && t.ok) = true ∧
    shows (step (State.reset.withFetchWord 32 0x00001204)) (fun t => t.busy && t.phase == .tx) = true ∧
    shows (step (State.reset.withFetchWord 32 0x03001205)) (fun t => t.busy && t.phase == .tx) = true ∧
    shows (step (State.reset.withFetchWord 32 0x00000000)) (fun t => t.stat == 0x10) = true ∧
    shows (step (State.reset.withFetchWord 32 0x00000006)) (fun t => t.stat == 0x10) = true ∧
    shows (step (State.reset.withFetchWord 32 0x00000007)) (fun t => t.stat == 0x10) = true ∧
    shows (step (State.reset.withFetchWord 32 0x10001001)) (fun t => t.stat == 0x10) = true := by decide +kernel

/-- The FRAME row's own bits, 0xBB: not connected after reset, so the write faults (R55). -/
theorem test_fetch_frame :
    decodeTableWord 8 0xBB = some (.frame 0x00 [] 0x00) ∧
    shows (step (State.reset.withFetchWord 8 0xBB)) (fun t => t.status == .transportFault && t.txs == []) = true := by
  decide +kernel

/-- `ENCODE BB, [BB]`: the start byte inside the frame is not escaped (2.2, R183). -/
theorem test_encode_no_escape :
    shows (exec (.encode (fields 0xBB 0 0)) { loaded with plen := 1, pay := [.put 0xBB] })
      (fun t => t.frm.take 5 == [0xBB, 0xBB, 0x01, 0xBB, 0x32] && t.flen == 5 && t.ok) = true := by decide +kernel

/-- `ENCODE FF, [FF x 255]`: the largest frame and the largest sum (2.2). -/
theorem test_encode_largest :
    shows (exec (.encode (fields 0xFF 0 0)) { loaded with plen := 255, pay := List.replicate 255 (.put 0xFF) })
      (fun t => t.frm == [0xBB, 0xFF, 0xFF] ++ List.replicate 255 0xFF ++ [0xBA] && t.flen == 259) = true := by
  decide +kernel

/-- `ENCF 31, 01, (1.5, -9.5)` (2.3). -/
theorem test_encf_selector_and_values :
    shows (exec (.encf ⟨true, 2, 0x31, 0x01, 0⟩) { loaded with val := [.put 0x3FC00000, .put 0xC1180000] })
      (fun t => t.frm.take 13 ==
        [0xBB, 0x31, 0x09, 0x01, 0x00, 0x00, 0xC0, 0x3F, 0x00, 0x00, 0x18, 0xC1, 0xCE] && t.flen == 13) = true := by
  decide +kernel

/-- `ENCF 22, -, (10 values)` is refused (2.3, R93). -/
theorem test_encf_refused :
    shows (exec (.encf (fields 0x22 10 0)) loaded) (fun t => t.status == .refused && t.flen == 0) = true := by
  decide +kernel

/-- `DECF B9, 9` (2.4), from other values. -/
theorem test_decf_largest :
    shows (exec (.decf (fields 0 0 9)) { loaded with val := List.replicate 9 .blank })
      (fun t => t.val == v9.map Slot.put && t.ok && t.rlen == 36) = true := by decide +kernel

/-- `DECF [8 bytes], 3`: all zero, no partial vector, the values above AR kept (2.4, R107). -/
theorem test_decf_mismatch :
    shows (exec (.decf (fields 0 0 3)) { loaded with rlen := 8 })
      (fun t => t.val == List.replicate 3 (.put 0) ++ (v9.drop 3).map Slot.put && t.status == .lenMismatch) = true := by
  decide +kernel

/-- `CALL 22, [00 CD CC 4C 3D]`: the frame is built, nothing is sent at issue (2.5, R63). -/
theorem test_call_issue :
    shows (exec (.call (fields 0x22 0 0)) loaded)
      (fun t => t.frm.take 9 == [0xBB, 0x22, 0x05, 0x00, 0xCD, 0xCC, 0x4C, 0x3D, 0x04] && t.txs == [] &&
        t.phase == .tx) = true := by decide +kernel

/-- `CALL 12, [], 25`: EXP = 37 is refused, nothing sent (2.5, R93). -/
theorem test_call_refused :
    shows (exec (.call (fields 0x12 0 0)) { loaded with exp := 37 })
      (fun t => t.status == .refused && t.flen == 0 && t.phase == .idle) = true := by decide +kernel

/-- `XFER 22, 00, (0.05), 1`: the frame of S7 (2.6). -/
theorem test_xfer_issue :
    shows (exec (.xfer ⟨true, 1, 0x22, 0x00, 1⟩) { loaded with val := [.put 0x3D4CCCCD] })
      (fun t => t.frm.take 9 == [0xBB, 0x22, 0x05, 0x00, 0xCD, 0xCC, 0x4C, 0x3D, 0x04] && t.busy) = true := by
  decide +kernel

/-- AR = 10 is refused for XFER, although ENCF would not look at it (R93). -/
theorem test_xfer_refused :
    shows (exec (.xfer (fields 0x12 0 10)) loaded) (fun t => t.status == .refused && !t.busy) = true := by
  decide +kernel

/-- A reserved OP changes nothing but CMD, OK, STATUS (2.7, R147). -/
theorem test_reserved_op0 :
    shows (exec (.reservedOp0 (fields 0 0 0)) { loaded with ok := true, status := .ok })
      (fun t => t == { loaded with cmd := 0 }) = true := by decide +kernel
theorem test_reserved_op6 :
    shows (exec (.reservedOp6 (fields 0 0 0)) loaded) (fun t => t == { loaded with cmd := 6 }) = true := by decide +kernel
theorem test_reserved_op7 :
    shows (exec (.reservedOp7 (fields 0 0 0)) loaded) (fun t => t == { loaded with cmd := 7 }) = true := by decide +kernel
/-- RSV = 1 with OP = 1 is refused, not encoded (2.7). -/
theorem test_reserved_rsv :
    shows (exec (.reservedRsv 1 1 (fields 0x10 0 0)) loaded)
      (fun t => t == { loaded with cmd := 0x10001001 }) = true := by decide +kernel

/-- The whole frame goes out (2.5, first row). -/
theorem test_frame_sent :
    shows (exec (.frame 0x12 [] 0xCD) atTx) (fun t => t.txs == [0xBB, 0x12, 0x00, 0xCD] && t.phase == .flush) = true := by
  decide +kernel

/-- A write fault after two bytes: they are on the wire, the reply is zeros, nothing is read (2.5). -/
theorem test_frame_faults :
    shows (exec (.frame 0x12 [] 0xCD) { atTx with answers := [broken] })
      (fun t => t.txs == [0xBB, 0x12] && t.rbuf.take 12 == List.replicate 12 (.put 0) && t.rlen == 12 &&
        t.status == .transportFault && t.rxq == b9) = true := by decide +kernel

/-- A full reply fills RBUF and, for XFER, VAL[0..2] (2.6, first row). -/
theorem test_reply_full :
    shows (exec (.reply b3) atRx)
      (fun t => t.rbuf.take 12 == b3.map Slot.put && t.val.take 3 == [.put 0x3DCCCCCD, .put 0xBE4CCCCD, .put 0x40400000] &&
        t.stat == 0x00000001) = true := by decide +kernel

/-- Eight bytes of twelve: zeros, ST_SHORT_READ, and the eight are gone (2.6, S6). -/
theorem test_reply_short :
    shows (step { atRx with answers := [slow] })
      (fun t => t.val.take 3 == List.replicate 3 (.put 0) && t.rlen == 12 && t.status == .shortRead &&
        t.rxq == b9.drop 8) = true := by decide +kernel

/-- The host's side: STAT after reset, an offset outside the map, a read-only register, a write while busy. -/
theorem test_host_port :
    shows (step { State.reset with inputs := [.read 0x00C] }) (fun t => t.rdata == 0x00000010) = true ∧
    regAt .standard 0x064 = none ∧ regAt .standard 0x224 = none ∧ regAt .standard 0x403 = none ∧
    regAt .standard 0x402 = some (.frm 258) ∧
    shows (step { atTx with inputs := [.write 0x000 0x03001205] }) (fun t => t == atTx) = true := by decide +kernel

/-- `ENCODE 10, []` shows its frame and nothing else (2.2); bytes that arrive and a disconnect after it do not keep
the run from being over (R186). -/
theorem test_observe_encode :
    observe 1 { loaded with plen := 0, inputs := [.write 0x000 0x00001001] } =
      { sent := [], results := [{ ok := true, status := .ok, values := none, reply := none, frame := some [0xBB, 0x10, 0x00, 0xCB] }] } ∧
    { loaded with inputs := [.arrive [0x00], .disconnect] }.runOver = true ∧ atTx.runOver = false ∧
    { loaded with inputs := [.disconnect, .write 0x000 0x00001001] }.runOver = false := by decide +kernel

/-- The host may spell a word that is refused with nothing loaded, and must connect before its first CALL (R188). -/
theorem test_duties :
    { State.reset with inputs := [.write 0x000 0x000022A2] }.dutiful none = true ∧
    { State.reset with inputs := [.write 0x000 0x00001001] }.dutiful none = true ∧
    { State.reset with inputs := [.write 0x000 0x00002204] }.dutiful none = false ∧
    { loaded with inputs := [.write 0x000 0x00002204] }.dutiful none = true ∧
    { atTx with inputs := [.read 0x00C] }.dutiful none = true ∧ { atTx with inputs := [.read 0x040] }.dutiful none = false := by
  decide +kernel

/-! Witnesses: states and operands that meet the hypotheses of the obligations named. -/

theorem witness_CommandWordFieldsStandWhereTheTableSays :
    (∀ k : Fin 8, (BitVec.ofNat 32 (0x0FFFFFF8 + k)).toNat / 2 ^ 28 = 0 ∧ (BitVec.ofNat 32 (0x0FFFFFF8 + k)).toNat % 8 = k) ∧
    (0x10001001#32).toNat / 2 ^ 28 ≠ 0 ∧ (0xFFFFFFFF#32).toNat / 2 ^ 28 ≠ 0 := by decide

theorem witness_EveryEncodingReadsBack :
    (Instr.xfer ⟨true, 15, 0xFF, 0xFF, 15⟩).wellFormed .standard = true ∧
    (Instr.reservedRsv 15 7 ⟨true, 15, 0xFF, 0xFF, 15⟩).wellFormed .standard = true ∧
    (Instr.frame 0xFF (List.replicate 255 0xFF) 0xBA).wellFormed .standard = true ∧
    (Instr.reply b9).wellFormed .standard = true := by decide +kernel

theorem witness_EveryAcceptedEncodingIsKept :
    decode .standard .command [0xFF, 0xFF, 0xFF, 0xFF] = .ok (.reservedRsv 15 7 ⟨true, 15, 0xFF, 0xFF, 15⟩) ∧
    decode .standard .request [0xBB, 0x10, 0x00, 0x00] = .ok (.frame 0x10 [] 0x00) ∧
    decode .standard .reply [] = .ok (.reply []) := by decide

theorem witness_ChecksumIsTheByteAccumulator : List.Perm [0xBB, 0x10, 0x00] ([0x00, 0xBB, 0x10] : List Byte) := by decide

theorem witness_FrameBytesStandAtTheirOffsets :
    (List.replicate 255 (0xFF : Byte)).length ≤ 255 ∧ 254 < (List.replicate 255 (0xFF : Byte)).length ∧
    255 < (List.replicate 256 (0xFF : Byte)).length := by
  simp only [List.length_replicate]; decide

theorem witness_PackLaysOutSelectorThenValues : v9[8]? = some 0x40000000#32 ∧ 3 < 4 := by decide

theorem witness_PackedValuesDecodeToThemselves :
    loaded.wf = true ∧ loaded.busy = false ∧ (fields 0 0 9).ar.toNat ≤ loaded.cfg.maxValues.val ∧
    v9.length = (fields 0 0 9).ar.toNat ∧ operandsLoaded (.decf (fields 0 0 9)) loaded = true ∧ loaded.rlen.toNat = 4 * v9.length ∧
    firstBits (4 * v9.length) loaded.rbuf = pack false 0 v9 := by decide +kernel

/-- Also of EncfBuildsTheFrame, EncfIsEncodeOfThePackedPayload, CallIssueBuildsTheFrame,
XferIssueBuildsTheFrame and ReservedWordsAreRefused, at the largest counts. -/
theorem witness_EncodeBuildsTheFrame :
    loaded.wf = true ∧ loaded.busy = false ∧ operandsLoaded (.encode (fields 0x50 0 0)) loaded = true ∧
    operandsLoaded (.encf (fields 0x50 9 9)) loaded = true ∧ operandsLoaded (.call (fields 0x50 0 0)) loaded = true ∧
    operandsLoaded (.xfer (fields 0x50 9 9)) loaded = true ∧ (fields 0x50 9 9).nv.toNat ≤ loaded.cfg.maxValues.val ∧
    (fields 0x50 9 9).ar.toNat ≤ loaded.cfg.maxValues.val ∧ (fields 0x50 0 0).opc = (fields 0x50 9 9).opc ∧
    loaded.exp.toNat ≤ loaded.cfg.rxMax := by decide +kernel

/-- A match at the largest arity, and a mismatch at arity 0. -/
theorem witness_DecfDecodesOrZeroes :
    loaded.wf = true ∧ loaded.busy = false ∧ operandsLoaded (.decf (fields 0 0 9)) loaded = true ∧
    (fields 0 0 9).ar.toNat ≤ loaded.cfg.maxValues.val ∧ loaded.rlen.toNat = 4 * (fields 0 0 9).ar.toNat ∧
    operandsLoaded (.decf (fields 0 0 0)) loaded = true ∧ (fields 0 0 0).ar.toNat ≤ loaded.cfg.maxValues.val ∧
    loaded.rlen.toNat ≠ 4 * (fields 0 0 0).ar.toNat := by decide +kernel

/-- A state with nothing loaded, and one byte and one value asked for. -/
theorem witness_UnwrittenOperandsAreUsedAsHeld :
    { State.reset with plen := 255, rlen := 36 }.wf = true ∧ State.reset.busy = false ∧
    operandsLoaded (.encode (fields 0 9 9)) { State.reset with plen := 255, rlen := 36 } = false ∧
    operandsLoaded (.xfer (fields 0 9 9)) State.reset = false ∧
    (fields 0 9 9).nv.toNat ≤ State.reset.cfg.maxValues.val ∧ (fields 0 9 9).ar.toNat ≤ State.reset.cfg.maxValues.val ∧
    State.reset.exp.toNat ≤ State.reset.cfg.rxMax := by decide +kernel

/-- Each of the five tests, a word on the good side of each bound, and right after reset, where STATUS is ST_REFUSED, a
word of ENCODE, ENCF and DECF that is executed. -/
theorem witness_WordsAreRefusedExactlyByTheFiveTests :
    loaded.busy = false ∧ RefusedWord loaded 0x10001001 ∧ RefusedWord loaded 0x00000000 ∧ RefusedWord loaded 0x00000006 ∧
    RefusedWord loaded 0x00000007 ∧ RefusedWord loaded 0x000022A2 ∧ RefusedWord loaded 0x0A000003 ∧
    RefusedWord { loaded with exp := 37 } 0x00001204 ∧
    ¬ RefusedWord loaded 0x0AFF10F9 ∧ ¬ RefusedWord loaded 0x00002292 ∧ ¬ RefusedWord loaded 0x09000003 ∧
    ¬ RefusedWord loaded 0x0A002204 ∧ ¬ RefusedWord loaded 0x09004095 ∧
    State.reset.busy = false ∧ State.reset.status = .refused ∧ ¬ RefusedWord State.reset 0x00001201 ∧
    ¬ RefusedWord State.reset 0x00002202 ∧ ¬ RefusedWord State.reset 0x00000003 := by
  refine ⟨by decide +kernel, ?_, ?_, ?_, ?_, ?_, ?_, ?_, ?_, ?_, ?_, ?_, ?_, ?_, ?_, ?_, ?_, ?_⟩ <;>
    (try unfold RefusedWord) <;> decide +kernel

theorem witness_UnreadFieldsHaveNoEffect :
    loaded.busy = false ∧ (⟨false, 2, 0x12, 0x01, 3⟩ : CmdFields) ≠ ⟨false, 2, 0x12, 0x02, 3⟩ ∧
    (⟨false, 2, 0x12, 0x01, 3⟩ : CmdFields).selen = false := by decide +kernel

theorem witness_HostAccessWhileBusy :
    atTx.busy = true ∧ ListedOffset atTx.cfg 0x060 ∧ ListedOffset atTx.cfg 0x402 ∧ ListedOffset atTx.cfg 0x223 ∧
    ListedOffset atTx.cfg 0x1FE ∧ ListedOffset atTx.cfg 0x000 := by
  refine ⟨by decide +kernel, .inr (.inl ⟨8, by decide +kernel⟩), .inr (.inr (.inr (.inr ⟨258, by decide⟩))),
    .inr (.inr (.inr (.inl ⟨35, by decide +kernel⟩))), .inr (.inr (.inl ⟨254, by decide⟩)), .inl (by decide)⟩

/-- Also of FaultAtTheWriteFailsTheCall and of OversizedFrameIsRefused. -/
theorem witness_FrameGoesOutWhole :
    atTx.wf = true ∧ atTx.phase = .tx ∧ atTx.conn = true ∧ atTx.answers = fine :: List.replicate 5 fine ∧
    fine.fault = false ∧ broken.fault = true ∧ { atTx with answers := [broken] }.wf = true ∧
    { atTx with conn := false }.wf = true ∧ (List.replicate 255 (0 : Byte)).length ≤ 255 ∧
    255 < (List.replicate 256 (0 : Byte)).length := by decide +kernel

/-- Also of FailureEntryWritesOnlyThese. -/
theorem witness_PrimitivesMoveTheStreamsAsStated :
    loaded.conn = true ∧ loaded.answers = fine :: List.replicate 5 fine ∧ fine.fault = false ∧ broken.fault = true ∧
    State.reset.conn = false ∧ atRx.wf = true ∧ atRx.busy = true ∧ Status.transportFault ≠ .ok := by decide +kernel

theorem witness_FlushOrdersTheWriteBeforeTheRead :
    atFlush.wf = true ∧ atFlush.inputs = [] ∧ atFlush.phase = .flush ∧ atFlush.conn = true ∧
    atFlush.answers = fine :: List.replicate 4 fine ∧ { atFlush with answers := [broken] }.wf = true ∧
    { atFlush with conn := false }.wf = true := by decide +kernel

/-- Also of FullReplyIsAccepted (12 bytes, and none awaited) and ShortReplyFailsWithZeros (11 bytes). -/
theorem witness_ReadTakesTheHeadOfTheReceiveStream :
    atRx.wf = true ∧ atRx.inputs = [] ∧ atRx.phase = .rx ∧ 0 < awaited atRx ∧ awaited atRx = b3.length ∧
    (b3.take 11).length < awaited atRx ∧ atRx.conn = true ∧ atRx.answers = fine :: List.replicate 3 fine ∧
    awaited atRx ≤ fine.got ∧ awaited atRx ≤ atRx.rxq.length ∧ slow.fault = false ∧ slow.got < awaited atRx ∧
    { atRx with answers := [slow] }.wf = true ∧ { atRx with answers := [broken] }.wf = true ∧
    { atRx with conn := false }.wf = true ∧ atRxNone.wf = true ∧ atRxNone.inputs = [] ∧ atRxNone.phase = .rx ∧
    awaited atRxNone = 0 := by decide +kernel

theorem witness_StepRunsTheDecodedInstruction :
    loaded.busy = false ∧
    decode loaded.cfg .command (littleEndian 0x03001205) = .ok (.xfer (fields 0x12 0 3)) ∧
    atTx.inputs = [] ∧ atTx.phase = .tx ∧
    decode atTx.cfg .request (atTx.frm.take atTx.flen.toNat) = .ok (.frame 0x12 [] 0xCD) ∧
    atRx.inputs = [] ∧ atRx.phase = .rx ∧ (rxRead (awaited atRx) atRx).1 = some b3 := by decide +kernel

/-- The four kinds of arrow, each taken by a step from a state that meets the invariant. Also of
EveryStepKeepsTheInvariant, ParametersNeverChange, TransmitHistoryOnlyGrows, ReceiveStreamIsConsumedFromTheFront
and StepsStopOnlyOnAHostBreach. -/
theorem witness_SequencerTakesOnlyTheListedArrows :
    { loaded with inputs := [.write 0x000 0x03001205] }.wf = true ∧
    shows (step { loaded with inputs := [.write 0x000 0x03001205] }) (fun t => t.phase == .tx) = true ∧
    atTx.wf = true ∧ shows (step atTx) (fun t => t.phase == .flush && t.txs != []) = true ∧
    atFlush.wf = true ∧ shows (step atFlush) (fun t => t.phase == .rx) = true ∧
    atRx.wf = true ∧ shows (step atRx) (fun t => t.phase == .idle && t.rxq == b9.drop 12) = true ∧
    shows (step { atRx with inputs := [.arrive [0x00]] }) (fun t => t.rxq == b9 ++ [0x00]) = true ∧
    shows (step { atTx with inputs := [.reset] }) (fun t => t.phase == .idle) = true := by decide +kernel

theorem witness_OnlyCallAndXferRaiseBusy :
    loaded.wf = true ∧ loaded.busy = false ∧ shows (exec (.call (fields 0x22 0 0)) loaded) (fun t => t.busy) = true ∧
    shows (exec (.xfer (fields 0x12 9 9)) loaded) (fun t => t.busy) = true := by decide +kernel

/-- The stops of StepsStopOnlyOnAHostBreach, each from a state that meets the invariant. -/
theorem witness_StepsStopOnlyOnAHostBreach :
    { loaded with inputs := [.write 0x018 0] }.wf = true ∧ regAt loaded.cfg 0x018 = none ∧
    { loaded with inputs := [.write 0x00C 0] }.wf = true ∧ ReadOnlyOffset 0x00C ∧
    { atTx with inputs := [.disconnect] }.wf = true ∧ atTx.busy = true := by
  refine ⟨by decide +kernel, by decide +kernel, by decide +kernel, .inl rfl, by decide +kernel, by decide +kernel⟩

/-- Every branch of `ExchangeEnds`: no connection; a fault at the write, at the flush, at the read; none awaited; a
full read; a short read, by the transport's count and by an empty RXQ. -/
theorem witness_ExchangeEnds :
    { loaded with conn := false }.conn = false ∧ loaded.conn = true ∧ broken.fault = true ∧ fine.fault = false ∧
    awaited { loaded with exp := 0, cmd := commandWord 0 4 (fields 0x22 0 0) } = 0 ∧
    awaited { loaded with cmd := commandWord 0 4 (fields 0x22 0 0) } = 36 ∧ 36 ≤ fine.got ∧
    36 ≤ loaded.rxq.length ∧ slow.fault = false ∧ ¬ 36 ≤ slow.got ∧ ¬ 36 ≤ { loaded with rxq := [] }.rxq.length := by
  decide +kernel

/-- `CALL 22, [00 CD CC 4C 3D]` with 36 bytes awaited. -/
theorem witness_CallRunsTheFourSteps :
    { loaded with inputs := [.write 0x000 (commandWord 0 4 (fields 0x22 0 0))] }.wf = true ∧ loaded.busy = false ∧
    operandsLoaded (.call (fields 0x22 0 0)) loaded = true ∧ loaded.exp.toNat ≤ loaded.cfg.rxMax ∧
    loaded.answers = fine :: fine :: fine :: List.replicate 3 fine ∧
    { loaded with inputs := [.write 0x000 (commandWord 0 4 (fields 0x22 0 0))], answers := [fine, broken, slow] }.wf = true := by
  decide +kernel

/-- `XFER 50, -, (V9), 9`: the largest counts. -/
theorem witness_XferRunsTheFourSteps :
    { loaded with inputs := [.write 0x000 (commandWord 0 5 (fields 0x50 9 9))] }.wf = true ∧ loaded.busy = false ∧
    operandsLoaded (.xfer (fields 0x50 9 9)) loaded = true ∧ (fields 0x50 9 9).nv.toNat ≤ loaded.cfg.maxValues.val ∧
    (fields 0x50 9 9).ar.toNat ≤ loaded.cfg.maxValues.val ∧
    loaded.answers = fine :: fine :: fine :: List.replicate 3 fine := by decide +kernel

theorem witness_EveryExchangeEndsWithinThreeSteps :
    (atTx.wf = true ∧ atTx.inputs = [] ∧ atTx.busy = true) ∧
    (atFlush.wf = true ∧ atFlush.inputs = [] ∧ atFlush.busy = true) ∧
    (atRx.wf = true ∧ atRx.inputs = [] ∧ atRx.busy = true) := by decide +kernel

/-- P5 operation 1, and an XFER. -/
theorem witness_UnconnectedCallFails :
    { State.reset with exp := 12, rxq := [0x11, 0x22], inputs := [.write 0x000 0x00001204] }.wf = true ∧
    State.reset.busy = false ∧ State.reset.conn = false ∧
    ((0x00001204#32).toNat % 8 = 4 ∧ (0x03001205#32).toNat % 8 = 5) ∧
    ¬ RefusedWord { State.reset with exp := 12 } 0x00001204 ∧ ¬ RefusedWord State.reset 0x03001205 := by
  refine ⟨by decide +kernel, by decide +kernel, by decide +kernel, by decide +kernel, ?_, ?_⟩ <;>
    (unfold RefusedWord; decide +kernel)

/-- P4 and P3: the states of the staged exchange, one after the other. -/
def staged1 : State := after (exec (.encf (fields 0x50 9 9)) loaded)
def staged2 : State :=
  { staged1 with
    pay := ((staged1.frm.drop 3).take (staged1.flen.toNat - 4)).map Slot.put ++ staged1.pay.drop (staged1.flen.toNat - 4)
    plen := BitVec.ofNat 8 (staged1.flen.toNat - 4)
    exp := BitVec.ofNat 8 (4 * (fields 0x50 9 9).ar.toNat) }

theorem witness_XferIsEncfCallDecf :
    loaded.wf = true ∧ loaded.busy = false ∧ loaded.inputs = [] ∧
    (fields 0x50 9 9).nv.toNat ≤ loaded.cfg.maxValues.val ∧ (fields 0x50 9 9).ar.toNat ≤ loaded.cfg.maxValues.val ∧
    shows (exec (.xfer (fields 0x50 9 9)) loaded) (fun _ => true) = true ∧
    shows (exec (.encf (fields 0x50 9 9)) loaded) (fun _ => true) = true ∧
    shows (exec (.call (fields 0x50 9 9)) staged2) (fun _ => true) = true := by decide +kernel

/-- Two states that agree on the operands and differ in everything an earlier operation leaves. -/
def other : State :=
  { loaded with ok := true, status := .ok, cmd := 0xFFFFFFFF, frm := List.replicate 259 0xEE, txs := [0x01] }

theorem witness_CodecResultsDependOnTheirOperandsOnly :
    loaded.wf = true ∧ other.wf = true ∧ loaded.busy = false ∧ other.busy = false ∧ loaded.cfg = other.cfg ∧
    loaded.plen = other.plen ∧ firstBits loaded.plen.toNat loaded.pay = firstBits loaded.plen.toNat other.pay ∧
    (fields 0x50 9 9).nv.toNat ≤ loaded.cfg.maxValues.val ∧ (fields 0x50 9 9).ar.toNat ≤ loaded.cfg.maxValues.val ∧
    firstBits (fields 0x50 9 9).nv.toNat loaded.val = firstBits (fields 0x50 9 9).nv.toNat other.val ∧
    loaded.rlen = other.rlen ∧ firstBits loaded.rlen.toNat loaded.rbuf = firstBits loaded.rlen.toNat other.rbuf ∧
    loaded ≠ other := by decide +kernel

theorem witness_ExchangeResultsDependOnOperandsAndTransportOnly :
    { loaded with inputs := [.write 0x000 0x09005095] }.wf = true ∧
    { other with inputs := [.write 0x000 0x09005095] }.wf = true ∧ loaded.conn = other.conn ∧
    loaded.answers = other.answers ∧ loaded.draws = other.draws ∧ loaded.rxq = other.rxq ∧
    ¬ RefusedWord loaded 0x09005095 ∧ ¬ RefusedWord loaded 0x00002204 ∧ (0x00002204#32).toNat % 8 = 4 ∧
    loaded.exp = other.exp ∧ (0x09005095#32).toNat % 8 = 5 ∧
    firstBits ((0x09005095#32).toNat / 16 % 16) loaded.val = firstBits ((0x09005095#32).toNat / 16 % 16) other.val := by
  refine ⟨by decide +kernel, by decide +kernel, by decide +kernel, by decide +kernel, by decide +kernel,
    by decide +kernel, ?_, ?_, by decide +kernel⟩ <;> (unfold RefusedWord; decide +kernel)

/-- P2's first two operations: eight bytes there, twelve asked for; then four late bytes for a scalar read. -/
theorem witness_LateBytesBecomeTheNextReply :
    { loaded with
      rxq := b9.take 8
      inputs := [.write 0x000 (commandWord 0 5 (fields 0x12 0 3)), .run, .run, .run, .arrive [0x00, 0x00, 0x40, 0x40],
        .write 0x000 (commandWord 0 5 (fields 0x23 0 1))] }.wf = true ∧
    loaded.busy = false ∧ loaded.conn = true ∧ (fields 0x12 0 3).ar.toNat ≤ loaded.cfg.maxValues.val ∧
    (fields 0x12 0 3).nv.toNat ≤ loaded.cfg.maxValues.val ∧ (fields 0x23 0 1).ar.toNat ≤ loaded.cfg.maxValues.val ∧
    (fields 0x23 0 1).nv.toNat ≤ loaded.cfg.maxValues.val ∧ (fields 0x23 0 1).ar ≠ 0 ∧
    loaded.answers = fine :: fine :: fine :: fine :: fine :: fine :: [] ∧
    (∀ d ∈ [fine, fine, fine, fine, fine, fine], d.fault = false) ∧
    (b9.take 8).length < 4 * (fields 0x12 0 3).ar.toNat ∧ (b9.take 8).length ≤ fine.got ∧
    4 * (fields 0x23 0 1).ar.toNat ≤ [0x00, 0x00, 0x40, (0x40 : Byte)].length ∧
    4 * (fields 0x23 0 1).ar.toNat ≤ fine.got := by decide +kernel

/-- A move of each kind at the head of the list, the block idle or busy: ResetAbandonsTheOperation,
ArrivingBytesRaiseNothing, LinkMovesOnlyWhileIdle, StatReadsTheFlags. -/
theorem witness_MovesLand :
    { atTx with inputs := [.reset] }.inputs = .reset :: [] ∧
    { atRx with inputs := [.arrive b3] }.inputs = .arrive b3 :: [] ∧
    { loaded with inputs := [.connect ⟨8, 115200, 100⟩] }.busy = false ∧ { loaded with inputs := [.disconnect] }.busy = false ∧
    { atTx with inputs := [.connect ⟨8, 115200, 100⟩] }.busy = true ∧ { atTx with inputs := [.disconnect] }.busy = true ∧
    { atTx with inputs := [.read 0x00C] }.inputs = .read 0x00C :: [] := by decide +kernel

/-- Each clause at the ends of its range: VAL[0] and VAL[8], PAY[254], RBUF[35], PLEN, EXP, RLEN. -/
theorem witness_HostReadsBackWhatItWrote :
    { loaded with inputs := [.write 0x040 0xFFFFFFFF, .read 0x040] }.wf = true ∧
    { loaded with inputs := [.write 0x060 0, .read 0x060] }.wf = true ∧ 8 < loaded.cfg.maxValues.val ∧ 0x060 = 0x040 + 4 * 8 ∧
    { loaded with inputs := [.write 0x1FE 0x1FF, .read 0x1FE] }.wf = true ∧ 0x1FE = 0x100 + 254 ∧
    { loaded with inputs := [.write 0x223 0x100, .read 0x223] }.wf = true ∧ 35 < loaded.cfg.rxMax ∧ 0x223 = 0x200 + 35 ∧
    { loaded with inputs := [.write 0x004 0x100, .read 0x004] }.wf = true ∧
    { loaded with inputs := [.write 0x008 0xFF, .read 0x008] }.wf = true ∧
    { loaded with inputs := [.write 0x010 0, .read 0x010] }.wf = true := by decide +kernel

/-- The last byte of a built frame, FLEN and CMD. -/
theorem witness_HostReadsTheFrame :
    { staged1 with inputs := [.read 0x327] }.wf = true ∧ staged1.busy = false ∧ 39 < staged1.flen.toNat ∧
    staged1.frm[39]? = some 0xC7 ∧ 0x327 = 0x300 + 39 ∧ { staged1 with inputs := [.read 0x014] }.wf = true ∧
    { staged1 with inputs := [.read 0x000] }.wf = true := by decide +kernel

/-- The last register of each range, unwritten, and the last byte of FRM above an empty frame. -/
theorem witness_UnspecifiedReadsStillComplete :
    { State.reset with inputs := [.read 0x060] }.wf = true ∧ State.reset.busy = false ∧
    8 < State.reset.cfg.maxValues.val ∧ 0x060 = 0x040 + 4 * 8 ∧ (State.reset.val[8]?).map Slot.written = some false ∧
    0x1FE = 0x100 + 254 ∧ (State.reset.pay[254]?).map Slot.written = some false ∧ 35 < State.reset.cfg.rxMax ∧
    0x223 = 0x200 + 35 ∧ (State.reset.rbuf[35]?).map Slot.written = some false ∧ 0x402 = 0x300 + 258 ∧
    State.reset.flen.toNat ≤ 258 := by decide +kernel

/-- One past the last VAL, RBUF and FRM register, an unaligned VAL offset, and the three read-only ranges. -/
theorem witness_UnlistedAccessesAreRefused :
    regAt loaded.cfg 0x064 = none ∧ regAt loaded.cfg 0x041 = none ∧ regAt loaded.cfg 0x224 = none ∧
    regAt loaded.cfg 0x403 = none ∧ loaded.busy = false ∧ ReadOnlyOffset 0x00C ∧ ReadOnlyOffset 0x014 ∧
    ReadOnlyOffset 0x402 := by
  refine ⟨by decide +kernel, by decide +kernel, by decide +kernel, by decide +kernel, by decide +kernel, .inl rfl,
    .inr (.inl rfl), .inr (.inr ⟨258, by decide⟩)⟩

/-- An offset outside the map is outside `ListedOffset`. -/
theorem witness_UnlistedOffset : ¬ ListedOffset loaded.cfg 0x018 := by
  have h9 : loaded.cfg.maxValues.val = 9 := by decide +kernel
  intro h
  rcases h with h | ⟨i, -, -, h⟩ | ⟨i, -, h⟩ | ⟨i, -, h⟩ | ⟨i, -, h⟩
  · simp at h
  all_goals omega

/-- Two states that differ in an unwritten register of PAY, and two that differ in unwritten registers of VAL and
RBUF (the first with eight values and 32 reply bytes loaded). -/
def partly : State := { loaded with val := loaded.val.set 8 ⟨0, false⟩, rbuf := loaded.rbuf.set 35 ⟨0, false⟩, rlen := 32 }

theorem witness_LoadedOperandsMakeUnwrittenRegistersIrrelevant :
    loaded.wf = true ∧ { loaded with pay := loaded.pay.set 254 ⟨0xFF, false⟩ }.wf = true ∧
    (∀ k : Fin 255, (loaded.pay[k.val]?).map Slot.written = some true →
      (loaded.pay.set 254 ⟨0xFF, false⟩)[k.val]? = loaded.pay[k.val]?) ∧
    loaded.pay ≠ loaded.pay.set 254 ⟨0xFF, false⟩ ∧ operandsLoaded (.encode (fields 0x10 0 0)) loaded = true ∧
    operandsLoaded (.call (fields 0x10 0 0)) loaded = true ∧ loaded.exp.toNat ≤ loaded.cfg.rxMax ∧
    partly.wf = true ∧ { loaded with rlen := 32 }.wf = true ∧ partly.busy = false ∧
    (∀ k : Fin 9, (partly.val[k.val]?).map Slot.written = some true → loaded.val[k.val]? = partly.val[k.val]?) ∧
    (∀ k : Fin 36, (partly.rbuf[k.val]?).map Slot.written = some true → loaded.rbuf[k.val]? = partly.rbuf[k.val]?) ∧
    partly.val ≠ loaded.val ∧ partly.rbuf ≠ loaded.rbuf ∧ operandsLoaded (.encf (fields 0x50 8 0)) partly = true ∧
    operandsLoaded (.decf (fields 0 0 8)) partly = true ∧ partly.rlen.toNat = 4 * (fields 0 0 8).ar.toNat ∧
    operandsLoaded (.xfer (fields 0x50 8 9)) partly = true ∧ (fields 0x50 8 9).nv.toNat ≤ partly.cfg.maxValues.val ∧
    (fields 0x50 8 9).ar.toNat ≤ partly.cfg.maxValues.val := by decide +kernel

/-- A read-write entry with its own shape, a write entry and a read entry without one. -/
theorem witness_RegistryEntryIsOneTransfer :
    loaded.wf = true ∧ loaded.busy = false ∧
    (RegistryEntry.mk 0x22 .readWrite 9 (some (Shape.mk true 9))).shape.getD (Shape.mk false 0) = Shape.mk true 9 ∧
    (9 : BitVec 4).toNat ≤ loaded.cfg.maxValues.val ∧
    transferOf (RegistryEntry.mk 0x22 .write 1 none) (Shape.mk true 1) 0x00 = some (.xfer ⟨true, 1, 0x22, 0x00, 1⟩) ∧
    (1 : BitVec 4) ≠ 0 ∧ (1 : BitVec 4).toNat ≤ loaded.cfg.maxValues.val ∧
    transferOf (RegistryEntry.mk 0x12 .read 3 none) (Shape.mk false 0) 0x00 = some (.xfer ⟨false, 0, 0x12, 0x00, 3⟩) ∧
    transferOf (RegistryEntry.mk 0x22 .write 1 none) (Shape.mk false 0) 0x00 = none := by
  decide +kernel

/-- A phase on the wrong side for each format, and one byte more than awaited. -/
theorem witness_WireFormatsActOnlyInTheirPhase :
    loaded.phase ≠ .tx ∧ atRx.phase ≠ .tx ∧ loaded.phase ≠ .rx ∧ atTx.phase ≠ .rx ∧ atRx.wf = true ∧ atRx.phase = .rx ∧
    awaited atRx < (b9.take 13).length ∧ atRxNone.wf = true ∧ atRxNone.phase = .rx ∧ awaited atRxNone < [(0x00 : Byte)].length := by
  decide +kernel

/-- A refused word, and a word of each operation. -/
theorem witness_OneOperationIsOverAndShowsItsRow :
    { loaded with inputs := [.write 0x000 0x000022A2] }.wf = true ∧ loaded.busy = false ∧ RefusedWord loaded 0x000022A2 ∧
    ¬ RefusedWord loaded 0x00001001 ∧ ¬ RefusedWord loaded 0x00005092 ∧ ¬ RefusedWord loaded 0x09000003 ∧
    ¬ RefusedWord loaded 0x00002204 ∧ ¬ RefusedWord loaded 0x03001205 := by
  refine ⟨by decide +kernel, by decide +kernel, ?_, ?_, ?_, ?_, ?_, ?_⟩ <;> (unfold RefusedWord; decide +kernel)

/-- What a DECF of three values and a CALL of 12 bytes show. -/
def shown3 : OpResult :=
  { ok := true, status := .ok, values := some (v9.take 3), reply := none, frame := none }
def shown12 : OpResult :=
  { ok := true, status := .ok, values := none, reply := some b3, frame := some [0xBB, 0x12, 0x00, 0xCD] }

/-- A dutiful issue, a refused word with nothing loaded, a CALL and an XFER before any connect, and reads at the ends of
what an operation wrote; after a CALL of 12 bytes neither a longer nor a shorter RLEN loaded since moves that end. -/
theorem witness_DutifulMovesAreNeverStopped :
    { loaded with inputs := [.write 0x000 0x00002204] }.wf = true ∧
    { loaded with inputs := [.write 0x000 0x00002204] }.dutiful none = true ∧ RefusedWord State.reset 0x000022A2 ∧
    State.reset.link = none ∧ (0x00002204#32).toNat % 8 = 4 ∧ ¬ RefusedWord State.reset 0x00002204 ∧
    ¬ RefusedWord State.reset 0x03001205 ∧ 8 < loaded.cfg.maxValues.val ∧ 35 < loaded.cfg.rxMax ∧
    { loaded with inputs := [.read 0x048] }.dutiful (some shown3) = true ∧
    { loaded with inputs := [.read 0x04C] }.dutiful (some shown3) = false ∧
    { loaded with rlen := 4, inputs := [.read 0x208] }.dutiful (some shown12) = true ∧
    { loaded with rlen := 36, inputs := [.read 0x214] }.dutiful (some shown12) = false ∧
    { loaded with inputs := [.read 0x303] }.dutiful (some shown12) = true ∧
    { loaded with inputs := [.read 0x304] }.dutiful (some shown12) = false ∧
    dutifulRun 1 (some shown12) { loaded with inputs := [.write 0x010 36] } = true ∧
    resultAfter (some shown12) { loaded with inputs := [.write 0x010 36] } { loaded with rlen := 36 } = some shown12 := by
  refine ⟨by decide +kernel, by decide +kernel, ?_, by decide +kernel, by decide +kernel, ?_, ?_, by decide +kernel⟩ <;>
    (unfold RefusedWord; decide +kernel)

end Sys2Proof.Tests
end

section
/-! PROOFS. STAT as a number (10_state R31), what a host read of it answers, and obligation O51. -/

namespace Sys2Proof.Machine

/-- The two bits of PHASE (R35). -/
@[simp] theorem Phase.code_toNat (p : Phase) : p.code.toNat = Claims.phaseNumber p := by
  cases p <;> rfl

/-- The three bits of STATUS (R30). -/
@[simp] theorem Status.code_toNat (st : Status) : st.code.toNat = Claims.statusNumber st := by
  cases st <;> rfl

/-- STAT as the sum of its fields at their places (R31). -/
theorem State.stat_toNat (s : State) :
    s.stat.toNat = s.ok.toNat + 2 * s.busy.toNat + 4 * Claims.statusNumber s.status +
      32 * Claims.phaseNumber s.phase := by
  simp only [State.stat, append_toNat, BitVec.toNat_ofBool, Phase.code_toNat, Status.code_toNat,
    BitVec.ofNat_eq_ofNat, BitVec.toNat_zero]
  omega

/-- A read of STAT returns the view, busy or not (R31, R33). -/
theorem hostRead_stat (s : State) : hostRead 0x00C s = .next (s.setRdata s.stat) := by
  simp only [hostRead, regAt_stat, visible]

/-- The step of a STAT read: only the moves still to land and the value the host got back change. -/
theorem step_readStat {s : State} {rest : List Input} (h : s.inputs = .read 0x00C :: rest) :
    step s = .next { s with rdata := s.stat, inputs := rest } := by
  rw [step_input h]
  exact hostRead_stat (s.setInputs rest)

end Sys2Proof.Machine

namespace Sys2Proof.Claims

open Sys2Proof.Machine

/-- Settles O51: the read answers STAT, and STAT is the sum of its fields at their places. -/
theorem statReadsTheFlags : Obligations.StatReadsTheFlags := by
  intro s rest h
  exact ⟨_, step_readStat h, s.stat_toNat, rfl⟩

end Sys2Proof.Claims
end

section
/-! PROOFS. The registers that 10_state R41 gives a reset value, at the start of a run and after a later reset,
and obligation O47. -/

namespace Sys2Proof.Machine

/-- The registers R41 names stand at their reset values. -/
structure State.AtReset (u : State) : Prop where
  cmd : u.cmd = 0
  plen : u.plen = 0
  exp : u.exp = 0
  rlen : u.rlen = 0
  flen : u.flen = 0
  ok : u.ok = false
  busy : u.busy = false
  status : u.status = .refused
  phase : u.phase = .idle

/-- A run starts with them there. -/
theorem State.atReset_initial (c : Config) : (State.initial c).AtReset :=
  ⟨rfl, rfl, rfl, rfl, rfl, rfl, rfl, rfl, rfl⟩

/-- The reset input takes every register it names from the start of a run (R170). -/
theorem State.atReset_resetBlock (s : State) : (resetBlock s).AtReset :=
  let ⟨cmd, plen, exp, rlen, flen, ok, busy, status, phase⟩ := State.atReset_initial s.cfg
  ⟨cmd, plen, exp, rlen, flen, ok, busy, status, phase⟩

/-- STAT at reset: STATUS is ST_REFUSED, every other bit 0 (R41). -/
theorem State.AtReset.stat_eq {u : State} (h : u.AtReset) : u.stat = 0x00000010 := by
  apply BitVec.eq_of_toNat_eq
  rw [State.stat_toNat, h.ok, h.busy, h.status, h.phase]
  rfl

@[simp] theorem State.initial_cfg (c : Config) : (State.initial c).cfg = c := rfl
@[simp] theorem State.initial_txs (c : Config) : (State.initial c).txs = [] := rfl
@[simp] theorem State.initial_conn (c : Config) : (State.initial c).conn = false := rfl

@[simp] theorem resetBlock_cfg (s : State) : (resetBlock s).cfg = s.cfg := rfl
@[simp] theorem resetBlock_txs (s : State) : (resetBlock s).txs = s.txs := rfl
@[simp] theorem resetBlock_rxq (s : State) : (resetBlock s).rxq = s.rxq := rfl
@[simp] theorem resetBlock_conn (s : State) : (resetBlock s).conn = s.conn := rfl

end Sys2Proof.Machine

namespace Sys2Proof.Claims

open Sys2Proof.Machine

/-- A reset, the first one or a later one, keeps the parameters and leaves R41's values. -/
theorem reset_cfg_atReset {s u : State} (h : u = State.initial s.cfg ∨ u = resetBlock s) :
    u.cfg = s.cfg ∧ u.AtReset := by
  obtain rfl | rfl := h
  · exact ⟨State.initial_cfg s.cfg, State.atReset_initial s.cfg⟩
  · exact ⟨resetBlock_cfg s, State.atReset_resetBlock s⟩

/-- Settles O47: both resets leave the registers at R41's values, from which STAT follows; a later one keeps
the streams and the connection. -/
theorem resetValuesAreThoseOfTheTable : Obligations.ResetValuesAreThoseOfTheTable := by
  refine ⟨fun c => ?_, fun s u h => ?_, fun s => ?_, rfl, rfl, rfl, rfl⟩
  · exact ⟨State.initial_cfg c, State.initial_txs c, State.initial_conn c, (State.atReset_initial c).stat_eq⟩
  · obtain ⟨hcfg, hr⟩ := reset_cfg_atReset h
    exact ⟨hcfg, hr.cmd, hr.plen, hr.exp, hr.rlen, hr.flen, hr.ok, hr.busy, hr.status,
      congrArg statusNumber hr.status, hr.phase⟩
  · exact ⟨resetBlock_txs s, resetBlock_rxq s, resetBlock_conn s⟩

end Sys2Proof.Claims
end

section
/-! PROOFS. The checksum as a sum and as an accumulator (40_codec R100), the bytes of a frame by offset (R102), and
obligations O5 and O7. -/

namespace Sys2Proof.Claims

/-- The model's byte sum is the natural sum of R9. -/
theorem byteSum_eq_total (bytes : List Byte) : byteSum bytes = total bytes := by
  induction bytes with
  | nil => rfl
  | cons b bs ih => simp only [byteSum, total, List.map_cons, List.sum_cons, ih]

/-- The sum modulo 256 (R100). -/
theorem cksum8_toNat (bytes : List Byte) : (cksum8 bytes).toNat = total bytes % 256 := by
  simp only [cksum8, BitVec.toNat_ofNat, byteSum_eq_total, Nat.reducePow]

/-- One more byte is one more addition in eight bits (R100). -/
theorem cksum8_cons (b : Byte) (bs : List Byte) : cksum8 (b :: bs) = b + cksum8 bs := by
  simp only [cksum8, byteSum, BitVec.ofNat_add, BitVec.ofNat_toNat, BitVec.setWidth_eq]

/-- An accumulator that starts anywhere ends at its start plus the checksum. -/
theorem foldl_add_eq_add_cksum8 (bytes : List Byte) (acc : Byte) :
    bytes.foldl (fun acc b => acc + b) acc = acc + cksum8 bytes := by
  induction bytes generalizing acc with
  | nil => exact (BitVec.add_zero acc).symm
  | cons b bs ih => rw [List.foldl_cons, ih, cksum8_cons, BitVec.add_assoc]

/-- The sum does not see the order of the bytes. -/
theorem total_perm {xs ys : List Byte} (h : xs.Perm ys) : total xs = total ys :=
  (h.map BitVec.toNat).sum_eq

/-- Settles O5: the accumulator by induction on the bytes, the order through the sum. -/
theorem checksumIsTheByteAccumulator : Obligations.ChecksumIsTheByteAccumulator := by
  refine ⟨cksum8_toNat, fun bytes => ?_, fun xs ys h => ?_, rfl⟩
  · exact ((foldl_add_eq_add_cksum8 bytes 0).trans (BitVec.zero_add _)).symm
  · exact BitVec.eq_of_toNat_eq (by rw [cksum8_toNat, cksum8_toNat, total_perm h])

/-- The frame the block lays out is the frame of R102. -/
theorem frameHead_cksum8_eq_wireFrame (c : Config) (opc : Byte) (p : List Byte) :
    frameHead c opc p ++ [cksum8 (frameHead c opc p)] = wireFrame c opc p := by
  have hck : BitVec.ofNat 8 (total (frameHead c opc p) % 256) = cksum8 (frameHead c opc p) :=
    BitVec.eq_of_toNat_eq (by rw [cksum8_toNat, BitVec.toNat_ofNat]; exact Nat.mod_mod _ _)
  rw [← hck]; rfl

/-- A payload of at most 255 bytes has the frame of R102. -/
theorem buildFrame_eq_wireFrame {c : Config} {opc : Byte} {p : List Byte} (h : p.length ≤ 255) :
    buildFrame c opc p = some (wireFrame c opc p) := by
  rw [buildFrame_of_le h, frameHead_cksum8_eq_wireFrame]

@[simp] theorem wireFrame_length (c : Config) (opc : Byte) (p : List Byte) :
    (wireFrame c opc p).length = 4 + p.length := by
  simp only [← frameHead_cksum8_eq_wireFrame, List.length_append, frameHead_length, List.length_singleton]
  omega

/-- Payload byte k stands at offset 3 + k (R80). -/
theorem wireFrame_getElem?_payload (c : Config) (opc : Byte) {p : List Byte} {k : Nat} (h : k < p.length) :
    (wireFrame c opc p)[3 + k]? = p[k]? := by
  rw [← frameHead_cksum8_eq_wireFrame, List.getElem?_append_left (by rw [frameHead_length]; omega), Nat.add_comm]
  rfl

/-- The bytes before the checksum are the frame's head. -/
theorem wireFrame_take_head (c : Config) (opc : Byte) (p : List Byte) :
    (wireFrame c opc p).take (3 + p.length) = frameHead c opc p := by
  rw [← frameHead_cksum8_eq_wireFrame, List.take_left' (frameHead_length c opc p)]

/-- The checksum stands behind the payload (R80). -/
theorem wireFrame_getElem?_checksum (c : Config) (opc : Byte) (p : List Byte) :
    (wireFrame c opc p)[3 + p.length]? = some (cksum8 (frameHead c opc p)) := by
  rw [← frameHead_cksum8_eq_wireFrame, ← frameHead_length c opc p, List.getElem?_concat_length]

/-- Settles O7: the built frame is the one of R102, and each of its bytes is read at its offset. -/
theorem frameBytesStandAtTheirOffsets : Obligations.FrameBytesStandAtTheirOffsets := by
  intro c opc p
  refine ⟨fun h => ⟨_, buildFrame_eq_wireFrame h, rfl, wireFrame_length c opc p, rfl, rfl, ?_,
    fun k hk => wireFrame_getElem?_payload c opc hk, ?_⟩, buildFrame_of_gt⟩
  · have hlen : (BitVec.ofNat 8 p.length).toNat = p.length := by
      rw [BitVec.toNat_ofNat]; omega
    exact congrArg some hlen
  · rw [wireFrame_getElem?_checksum, wireFrame_take_head, Option.map_some, cksum8_toNat]

end Sys2Proof.Claims
end

section
/-! PROOFS. The byte order by numbers (00_scope R10), both ways (40_codec R112), the layout of a packed payload
(R101), and obligations O6 and O8. -/

namespace Sys2Proof.Claims

/-- The byte of weight 256^j is the slice of eight bits from bit 8*j. -/
theorem slice_eq_byte (w : Word) (j : Nat) :
    w.extractLsb' (8 * j) 8 = BitVec.ofNat 8 (w.toNat / 256 ^ j) := by
  apply BitVec.eq_of_toNat_eq
  rw [slice_toNat, BitVec.toNat_ofNat, pow_mul]; rfl

/-- The block lays a pattern out by the weights of R10. -/
theorem le32_eq_littleEndian (w : Word) : le32 w = littleEndian w := by
  simp only [littleEndian, List.map_cons, List.map_nil, ← slice_eq_byte]
  rfl

/-- Four bytes back to their pattern (R112). -/
theorem fromLe32_le32 (w : Word) :
    fromLe32 (w.extractLsb' 0 8) (w.extractLsb' 8 8) (w.extractLsb' 16 8) (w.extractLsb' 24 8) = w := by
  have := w.isLt
  apply BitVec.eq_of_toNat_eq
  simp only [fromLe32_toNat, slice_toNat]
  omega

/-- Four bytes through their pattern (R112). -/
theorem le32_fromLe32 (b0 b1 b2 b3 : Byte) : le32 (fromLe32 b0 b1 b2 b3) = [b0, b1, b2, b3] := by
  have := b0.isLt; have := b1.isLt; have := b2.isLt; have := b3.isLt
  simp only [le32, List.cons.injEq, and_true]
  refine ⟨?_, ?_, ?_, ?_⟩ <;> apply BitVec.eq_of_toNat_eq <;> rw [slice_toNat, fromLe32_toNat] <;> omega

/-- Settles O6: each direction of R112, tied to the byte weights. -/
theorem patternsSurviveTheByteOrder : Obligations.PatternsSurviveTheByteOrder := by
  refine ⟨fun w => ⟨le32_eq_littleEndian w, fromLe32_le32 w⟩, fun w b0 b1 b2 b3 h => ?_,
    fun b0 b1 b2 b3 => ⟨rfl, le32_fromLe32 b0 b1 b2 b3⟩⟩
  simp only [le32, List.cons.injEq, and_true] at h
  obtain ⟨rfl, rfl, rfl, rfl⟩ := h
  exact fromLe32_le32 w

/-- Packing lays each value out by the weights of R10. -/
theorem pack_eq (selen : Bool) (sel : Byte) (vs : List Word) :
    pack selen sel vs = (if selen then [sel] else []) ++ vs.flatMap littleEndian := by
  simp only [pack, funext le32_eq_littleEndian]

/-- Byte j of a pattern's four. -/
theorem littleEndian_getElem? (w : Word) {j : Nat} (h : j < 4) :
    (littleEndian w)[j]? = some (BitVec.ofNat 8 (w.toNat / 256 ^ j)) := by
  have hplaces : ([0, 1, 2, 3] : List Nat) = List.range 4 := rfl
  rw [littleEndian, hplaces, List.getElem?_map, List.getElem?_range h, Option.map_some]

/-- Byte j of value i stands at offset 4*i + j of the values' bytes. -/
theorem flatMap_littleEndian_getElem? (vs : List Word) (i : Nat) {j : Nat} (hj : j < 4) :
    (vs.flatMap littleEndian)[4 * i + j]? =
      (vs[i]?).map fun v => BitVec.ofNat 8 (v.toNat / 256 ^ j) := by
  induction vs generalizing i with
  | nil => rfl
  | cons v vs ih =>
    have hlen : (littleEndian v).length = 4 := rfl
    rw [List.flatMap_cons]
    cases i with
    | zero =>
      rw [List.getElem?_append_left (by omega), Nat.mul_zero, Nat.zero_add, littleEndian_getElem? v hj]; rfl
    | succ i =>
      rw [List.getElem?_append_right (by omega), hlen, show 4 * (i + 1) + j - 4 = 4 * i + j by omega, ih]; rfl

/-- Settles O8: the layout, its length, and every value byte at its offset. -/
theorem packLaysOutSelectorThenValues : Obligations.PackLaysOutSelectorThenValues := by
  intro selen sel vs
  refine ⟨pack_eq selen sel vs, ?_, fun i j v hv hj => ?_⟩
  · cases selen <;> exact pack_length _ sel vs
  have hvals : (vs.flatMap littleEndian)[4 * i + j]? = some (BitVec.ofNat 8 (v.toNat / 256 ^ j)) := by
    rw [flatMap_littleEndian_getElem? vs i hj, hv, Option.map_some]
  rw [pack_eq, Nat.add_assoc]
  cases selen with
  | false => simpa using hvals
  | true => rw [Nat.add_comm]; exact hvals

end Sys2Proof.Claims
end

section
/-! PROOFS. The operands of the codec's operations and what ENCODE, ENCF and DECF leave behind, in the terms of the
statements (40_codec R103, R105, R107), and obligations O10, O11 and O13. -/

namespace Sys2Proof.Claims

open Sys2Proof.Machine

variable {s : State}

theorem payloadOperand_length (s : State) : (payloadOperand s).length = s.plen.toNat := readFirst_length _ _

theorem rawOperand_length (f : CmdFields) (s : State) : (rawOperand f s).length = 4 * f.ar.toNat :=
  readFirst_length _ _

/-- PLEN never reaches past PAY (R22, R24). -/
theorem payloadOperand_eq (hw : s.wf = true) : payloadOperand s = firstBits s.plen.toNat s.pay := by
  obtain ⟨hpay, -⟩ := (State.wf_iff s).mp hw
  have := s.plen.isLt
  exact readFirst_eq_take (by omega)

/-- With NV at most MAX_VALUES the packed payload is that of R105. -/
theorem packedOperand_eq {f : CmdFields} (hw : s.wf = true) (hn : f.nv.toNat ≤ s.cfg.maxValues.val) :
    packedOperand f s = floatPayload f s := by
  obtain ⟨-, hval, -⟩ := (State.wf_iff s).mp hw
  rw [packedOperand, pack_eq, valuesOperand, readFirst_eq_take (by omega)]
  rfl

/-- With AR at most MAX_VALUES the raw bytes lie within RBUF (R107). -/
theorem rawOperand_eq {f : CmdFields} (hw : s.wf = true) (ha : f.ar.toNat ≤ s.cfg.maxValues.val) :
    rawOperand f s = firstBits (4 * f.ar.toNat) s.rbuf := by
  obtain ⟨-, -, hrbuf, -⟩ := (State.wf_iff s).mp hw
  have hmax : s.cfg.rxMax = 4 * s.cfg.maxValues.val := rfl
  exact readFirst_eq_take (by omega)

/-- The frame length fits FLEN's nine bits (R27). -/
theorem framed_flen (opc : Byte) {p : List Byte} (hp : p.length ≤ 255) (s : State) :
    (framed opc p s).flen.toNat = 4 + p.length := by
  rw [framed, State.setFrame_flen, BitVec.toNat_ofNat]; omega

/-- Building a frame leaves it in FRM and FLEN (R27, R102). -/
theorem framed_holdsFrame (opc : Byte) {p : List Byte} (hp : p.length ≤ 255) (hfrm : s.frm.length = 259) :
    HoldsFrame (wireFrame s.cfg opc p) (framed opc p s) := by
  have hlen := wireFrame_length s.cfg opc p
  refine ⟨?_, by rw [framed_flen opc hp, hlen]⟩
  rw [framed, State.setFrame_frm, frameHead_cksum8_eq_wireFrame, overwrite_eq (by omega), List.take_left]

/-- Values that fit go to the first value registers, the others keep theirs (R25). -/
theorem putValues_overwritten {vs : List Word} (h : vs.length ≤ s.val.length) :
    Overwritten vs s.val (putValues vs s).val := by
  rw [Overwritten, putValues, State.setVal_val, overwrite_eq (by simpa using h), List.length_map]

/-- The first value is that of the first four bytes, the later ones those of the rest. -/
theorem valuesIn_cons (b0 b1 b2 b3 : Byte) (rest : List Byte) (n : Nat) :
    valuesIn (b0 :: b1 :: b2 :: b3 :: rest) (n + 1) = fromLe32 b0 b1 b2 b3 :: valuesIn rest n := by
  simp only [valuesIn, List.range_succ_eq_map, List.map_cons, List.map_map]
  rfl

/-- Reading bytes four at a time gives the values at the offsets of R87. -/
theorem wordsOf_eq_valuesIn (n : Nat) (bytes : List Byte) (h : bytes.length = 4 * n) :
    wordsOf bytes = valuesIn bytes n := by
  induction n generalizing bytes with
  | zero => rw [List.length_eq_zero_iff.mp h]; rfl
  | succ n ih =>
    match bytes, h with
    | b0 :: b1 :: b2 :: b3 :: rest, h =>
      rw [wordsOf, valuesIn_cons, ih rest (by simp only [List.length_cons] at h; omega)]

/-- Settles O10: ENCODE frames PAY[0..PLEN-1], and every field it does not write is that of `s`. -/
theorem encodeBuildsTheFrame : Obligations.EncodeBuildsTheFrame := by
  intro f s hw hb _
  obtain ⟨-, -, -, hfrm, -⟩ := (State.wf_iff s).mp hw
  have hp := payloadOperand_length_le s
  have hflen := framed_flen f.opc hp (s.setCmd (commandWord 0 1 f))
  rw [payloadOperand_length] at hflen
  have hframe := framed_holdsFrame (s := s.setCmd (commandWord 0 1 f)) f.opc hp hfrm
  exact ⟨_, execEncode_idle hb, payloadOperand_eq hw ▸ hframe, hflen, rfl, rfl, rfl, rfl⟩

/-- Settles O11: ENCF frames the packed payload, and every field it does not write is that of `s`. -/
theorem encfBuildsTheFrame : Obligations.EncfBuildsTheFrame := by
  intro f s hw hb _ hn
  obtain ⟨-, -, -, hfrm, -⟩ := (State.wf_iff s).mp hw
  have hp := packedOperand_length_le f s
  have hflen := framed_flen f.opc hp (s.setCmd (commandWord 0 2 f))
  rw [packedOperand_length, ← Nat.add_assoc] at hflen
  have hframe := framed_holdsFrame (s := s.setCmd (commandWord 0 2 f)) f.opc hp hfrm
  exact ⟨_, execEncf_idle hb hn, packedOperand_eq hw hn ▸ hframe, hflen, rfl, rfl, rfl, rfl⟩

/-- Settles O13: by RLEN, the values of RBUF or zeros in VAL[0..AR-1], and every field DECF does not write is
that of `s`. -/
theorem decfDecodesOrZeroes : Obligations.DecfDecodesOrZeroes := by
  intro f s hw hb _ ha
  obtain ⟨-, hval, -⟩ := (State.wf_iff s).mp hw
  by_cases hl : s.rlen.toNat = 4 * f.ar.toNat
  · have hlen := rawOperand_length f s
    refine ⟨_, execDecf_match hb ha hl, rfl, fun _ => ⟨?_, rfl, rfl⟩, fun h => absurd hl h, rfl⟩
    rw [← rawOperand_eq hw ha, ← wordsOf_eq_valuesIn _ _ hlen]
    exact putValues_overwritten (s := s.setCmd _) (by rw [wordsOf_length _ _ hlen, State.setCmd_val]; omega)
  · refine ⟨_, execDecf_mismatch hb ha hl, rfl, fun h => absurd h hl, fun _ => ⟨?_, rfl, rfl⟩, rfl⟩
    exact putValues_overwritten (s := s.setCmd _) (by rw [List.length_replicate, State.setCmd_val]; omega)

end Sys2Proof.Claims
end

section
/-! PROOFS. The decoder and the encoder against each other at the three ports (30_encoding R80, R87, R90), the
command word by its numbers (R90, R91), and obligations O1, O2, O3 and O4. -/

namespace Sys2Proof

/-! The command port. -/

/-- Every pattern's four bytes are a command word (R57, R90). -/
theorem decode_le32 (c : Config) (w : Word) : decode c .command (le32 w) = .ok (decodeWord w) :=
  congrArg (fun v => Decoded.ok (decodeWord v)) (Claims.fromLe32_le32 w)

/-- The eight operation selects (R91). -/
theorem op_cases : ∀ op : BitVec 3,
    op = 0 ∨ op = 1 ∨ op = 2 ∨ op = 3 ∨ op = 4 ∨ op = 5 ∨ op = 6 ∨ op = 7 := by decide

/-- With RSV = 0 each operation select has the row that is encoded with it (R91). -/
theorem encode_ofOp (c : Config) (op : BitVec 3) (f : CmdFields) :
    encode c (ofOp op f) = le32 (commandWord 0 op f) := by
  obtain rfl | rfl | rfl | rfl | rfl | rfl | rfl | rfl := op_cases op <;> rfl

theorem port_ofOp (op : BitVec 3) (f : CmdFields) : (ofOp op f).port = .command := by
  obtain rfl | rfl | rfl | rfl | rfl | rfl | rfl | rfl := op_cases op <;> rfl

/-- What a word decodes to is encoded as that word's bytes (R90). -/
theorem encode_decodeWord (c : Config) (w : Word) : encode c (decodeWord w) = le32 w := by
  have hw := commandWord_cmdFields w
  unfold decodeWord
  split
  · next hr => rw [encode_ofOp, ← hr, hw]
  · exact congrArg le32 hw

theorem port_decodeWord (w : Word) : (decodeWord w).port = .command := by
  unfold decodeWord
  split
  · exact port_ofOp _ _
  · rfl

/-- With RSV = 0 the number in bits 2:0 picks the row (R91). -/
theorem decodeWord_of_rsv_zero {w : Word} (h : w.toNat / 2 ^ 28 = 0) :
    decodeWord w = ofOp (BitVec.ofNat 3 (w.toNat % 8)) (cmdFields w) := by
  have hr : w.extractLsb' 28 4 = 0 := BitVec.eq_of_toNat_eq (by rw [slice_toNat, h]; rfl)
  have ho : w.extractLsb' 0 3 = BitVec.ofNat 3 (w.toNat % 8) :=
    BitVec.eq_of_toNat_eq (by rw [slice_toNat, BitVec.toNat_ofNat]; omega)
  rw [decodeWord, if_pos hr, ho]

/-- RSV of a word as a number. -/
theorem rsv_toNat (w : Word) : (w.extractLsb' 28 4).toNat = w.toNat / 2 ^ 28 := by
  have := w.isLt
  rw [slice_toNat]; omega

/-- With RSV not 0 the word is of the RSV-reserved row, whatever OP is (R93). -/
theorem decodeWord_of_rsv_ne {w : Word} (h : w.toNat / 2 ^ 28 ≠ 0) :
    decodeWord w = .reservedRsv (w.extractLsb' 28 4) (w.extractLsb' 0 3) (cmdFields w) := by
  refine if_neg fun hr => h ?_
  rw [← rsv_toNat, hr]; rfl

end Sys2Proof

namespace Sys2Proof.Claims

/-- Settles O3: a command word reads back by its fields, a frame by its length byte, a reply as its bytes. -/
theorem everyEncodingReadsBack : Obligations.EveryEncodingReadsBack := by
  intro c i hi
  have hword (rsv : BitVec 4) (op : BitVec 3) (f : CmdFields) :
      decode c .command (le32 (commandWord rsv op f)) =
        .ok (if rsv = 0 then ofOp op f else .reservedRsv rsv op f) := by
    rw [decode_le32, decodeWord_commandWord]
  cases i with
  | encode f => exact hword 0 1 f
  | encf f => exact hword 0 2 f
  | decf f => exact hword 0 3 f
  | call f => exact hword 0 4 f
  | xfer f => exact hword 0 5 f
  | reservedOp0 f => exact hword 0 0 f
  | reservedOp6 f => exact hword 0 6 f
  | reservedOp7 f => exact hword 0 7 f
  | reservedRsv rsv op f =>
    have hrsv : rsv ≠ 0 := by simpa [Instr.wellFormed] using hi
    exact (hword rsv op f).trans (by rw [if_neg hrsv])
  | frame opc p ck =>
    have hp : p.length ≤ 255 := of_decide_eq_true (Bool.and_eq_true_iff.mp hi).1
    exact decodeRequest_of_fields hp
  | reply bytes => rfl

/-- Settles O4: each port's accepted bytes are laid out again from what was read. -/
theorem everyAcceptedEncodingIsKept : Obligations.EveryAcceptedEncodingIsKept := by
  refine ⟨fun c port bytes i h => ?_, fun c w => le32_eq_littleEndian w ▸ decode_le32 c w⟩
  cases port with
  | command =>
    match bytes, h with
    | [b0, b1, b2, b3], h =>
      cases h
      exact ⟨port_decodeWord _, (encode_decodeWord c _).trans (le32_fromLe32 b0 b1 b2 b3)⟩
  | request =>
    obtain ⟨opc, p, ck, rfl, -, rfl⟩ := decodeRequest_ok h
    exact ⟨rfl, rfl⟩
  | reply => cases h; exact ⟨rfl, rfl⟩

/-- Settles O2: each field is a slice of the word, and RSV and OP pick the row. -/
theorem commandWordFieldsStandWhereTheTableSays : Obligations.CommandWordFieldsStandWhereTheTableSays := by
  intro w
  refine ⟨getLsbD_toNat w 3, slice_toNat w 4 4, slice_toNat w 8 8, slice_toNat w 16 8, slice_toNat w 24 4,
    fun hr => ?_, fun hr => ⟨_, _, rsv_toNat w, ?_, decodeWord_of_rsv_ne hr⟩⟩
  · rw [decodeWord_of_rsv_zero hr]
    refine ⟨?_, ?_, ?_, ?_, ?_, ?_, ?_, ?_⟩ <;> exact fun h => by rw [h]; rfl
  · rw [slice_toNat]; omega

/-- Settles O1: the words and frames of 95_test_vectors, decoded. -/
theorem wordsOfTheSpecDecodeAsItSays : Obligations.WordsOfTheSpecDecodeAsItSays := by
  unfold Obligations.WordsOfTheSpecDecodeAsItSays
  decide

end Sys2Proof.Claims
end

section
/-! PROOFS. The command port by the word the host spells: the five tests of 30_encoding R93, what an executed word
leaves, the fields an operation does not read (R92), and obligations O17, O18 and O19. -/

namespace Sys2Proof.Machine

open Claims

variable {s t : State} {w : Word}

/-- A word with RSV = 0 is laid out again from its operation select and its fields (R90). -/
theorem commandWord_of_rsv_zero (hr : w.toNat / 2 ^ 28 = 0) {k : Nat} (hk : w.toNat % 8 = k) :
    commandWord 0 (BitVec.ofNat 3 k) (cmdFields w) = w := by
  have hr' : w.extractLsb' 28 4 = 0 := BitVec.eq_of_toNat_eq (by rw [slice_toNat, hr]; rfl)
  have ho : w.extractLsb' 0 3 = BitVec.ofNat 3 k :=
    BitVec.eq_of_toNat_eq (by rw [slice_toNat, BitVec.toNat_ofNat]; omega)
  rw [← hr', ← ho]
  exact commandWord_cmdFields w

/-- NV and AR of a word as numbers (R90). -/
theorem cmdFields_nv_toNat (w : Word) : (cmdFields w).nv.toNat = w.toNat / 16 % 16 := slice_toNat w 4 4
theorem cmdFields_ar_toNat (w : Word) : (cmdFields w).ar.toNat = w.toNat / 2 ^ 24 % 16 := slice_toNat w 24 4

/-- An instruction of the command port is ignored while BUSY = 1 (R33). -/
theorem exec_command_busy {i : Instr} (hi : i.port = .command) (hb : s.busy = true) : exec i s = .next s := by
  cases i with
  | encode f => exact execEncode_busy hb
  | encf f => exact execEncf_busy hb
  | decf f => exact execDecf_busy hb
  | call f => exact execCall_busy hb
  | xfer f => exact execXfer_busy hb
  | reservedOp0 f => exact execReservedOp0_busy hb
  | reservedOp6 f => exact execReservedOp6_busy hb
  | reservedOp7 f => exact execReservedOp7_busy hb
  | reservedRsv rsv op f => exact execReservedRsv_busy hb
  | frame opc p ck => cases hi
  | reply bytes => cases hi

/-- The instruction stores the word and refuses it, whichever of the tests of R93 holds (R147). -/
structure Refuses (s : State) (w : Word) (i : Instr) : Prop where
  atIssue : refusedAtIssue i s = true
  exec_eq : s.busy = false → exec i s = .next (refuse (s.setCmd w))

/-- The instruction is one of the five operations, with its counts in range and laid out as this word (R91, R93). -/
inductive Spells (s : State) (w : Word) : Instr → Prop
  | encode : w.toNat % 8 = 1 → commandWord 0 1 (cmdFields w) = w → Spells s w (.encode (cmdFields w))
  | encf : w.toNat % 8 = 2 → commandWord 0 2 (cmdFields w) = w →
      (cmdFields w).nv.toNat ≤ s.cfg.maxValues.val → Spells s w (.encf (cmdFields w))
  | decf : w.toNat % 8 = 3 → commandWord 0 3 (cmdFields w) = w →
      (cmdFields w).ar.toNat ≤ s.cfg.maxValues.val → Spells s w (.decf (cmdFields w))
  | call : w.toNat % 8 = 4 → commandWord 0 4 (cmdFields w) = w →
      s.exp.toNat ≤ s.cfg.rxMax → Spells s w (.call (cmdFields w))
  | xfer : w.toNat % 8 = 5 → commandWord 0 5 (cmdFields w) = w → (cmdFields w).nv.toNat ≤ s.cfg.maxValues.val →
      (cmdFields w).ar.toNat ≤ s.cfg.maxValues.val → Spells s w (.xfer (cmdFields w))

/-- A word of any row is refused by R93, or is one of the five operations (RSV first, then OP, then the counts). -/
theorem refuses_or_spells (s : State) (w : Word) :
    RefusedWord s w ∧ Refuses s w (decodeWord w) ∨ ¬ RefusedWord s w ∧ Spells s w (decodeWord w) := by
  have hnv := cmdFields_nv_toNat w
  have har := cmdFields_ar_toNat w
  by_cases hr : w.toNat / 2 ^ 28 = 0
  case neg =>
    rw [decodeWord_of_rsv_ne hr]
    refine .inl ⟨.inl hr, rfl, fun hb => (execReservedRsv_idle hb).trans ?_⟩
    rw [commandWord_cmdFields]
  have hcw {k : Nat} (hk : w.toNat % 8 = k) := commandWord_of_rsv_zero hr hk
  have hexec {i : Instr} {v : Word} (hv : v = w) (he : s.busy = false → exec i s = .next (refuse (s.setCmd v))) :
      s.busy = false → exec i s = .next (refuse (s.setCmd w)) := hv ▸ he
  rw [decodeWord_of_rsv_zero hr]
  obtain h | h | h | h | h | h | h | h : w.toNat % 8 = 0 ∨ w.toNat % 8 = 1 ∨ w.toNat % 8 = 2 ∨ w.toNat % 8 = 3 ∨
      w.toNat % 8 = 4 ∨ w.toNat % 8 = 5 ∨ w.toNat % 8 = 6 ∨ w.toNat % 8 = 7 := by omega
  all_goals rw [h]; unfold RefusedWord
  · exact .inl ⟨by omega, rfl, hexec (hcw h) execReservedOp0_idle⟩
  · exact .inr ⟨by omega, .encode h (hcw h)⟩
  · by_cases hn : s.cfg.maxValues.val < (cmdFields w).nv.toNat
    · exact .inl ⟨by omega, decide_eq_true hn, hexec (hcw h) fun hb => execEncf_refused hb hn⟩
    · exact .inr ⟨by omega, .encf h (hcw h) (by omega)⟩
  · by_cases hn : s.cfg.maxValues.val < (cmdFields w).ar.toNat
    · exact .inl ⟨by omega, decide_eq_true hn, hexec (hcw h) fun hb => execDecf_refused hb hn⟩
    · exact .inr ⟨by omega, .decf h (hcw h) (by omega)⟩
  · by_cases hn : s.cfg.rxMax < s.exp.toNat
    · exact .inl ⟨by omega, decide_eq_true hn, hexec (hcw h) fun hb => execCall_refused hb hn⟩
    · exact .inr ⟨by omega, .call h (hcw h) (by omega)⟩
  · by_cases hn : s.cfg.maxValues.val < (cmdFields w).nv.toNat ∨ s.cfg.maxValues.val < (cmdFields w).ar.toNat
    · have ha : (decide (s.cfg.maxValues.val < (cmdFields w).nv.toNat) ||
          decide (s.cfg.maxValues.val < (cmdFields w).ar.toNat)) = true := by simpa using hn
      exact .inl ⟨by omega, ha, hexec (hcw h) fun hb => execXfer_refused hb hn⟩
    · exact .inr ⟨by omega, .xfer h (hcw h) (by omega) (by omega)⟩
  · exact .inl ⟨by omega, rfl, hexec (hcw h) execReservedOp6_idle⟩
  · exact .inl ⟨by omega, rfl, hexec (hcw h) execReservedOp7_idle⟩

theorem refuses_decodeWord (hr : RefusedWord s w) : Refuses s w (decodeWord w) :=
  (refuses_or_spells s w).elim And.right fun h => absurd hr h.1

theorem spells_decodeWord (hr : ¬ RefusedWord s w) : Spells s w (decodeWord w) :=
  (refuses_or_spells s w).elim (fun h => absurd h.1 hr) And.right

/-- What a word that is not refused leaves, by the operation it spells (R103, R105, R107, R120, R126). -/
inductive Executes (s : State) (w : Word) : State → Prop
  | encode : w.toNat % 8 = 1 →
      Executes s w (succeed (framed (cmdFields w).opc (payloadOperand s) (s.setCmd w)))
  | encf : w.toNat % 8 = 2 →
      Executes s w (succeed (framed (cmdFields w).opc (packedOperand (cmdFields w) s) (s.setCmd w)))
  | decfMatch : w.toNat % 8 = 3 → (cmdFields w).ar.toNat ≤ s.cfg.maxValues.val →
      Executes s w (succeed (putValues (wordsOf (rawOperand (cmdFields w) s)) (s.setCmd w)))
  | decfMismatch : w.toNat % 8 = 3 → (cmdFields w).ar.toNat ≤ s.cfg.maxValues.val →
      Executes s w
        ((putValues (List.replicate (cmdFields w).ar.toNat pzero) (s.setCmd w)).setStatus .lenMismatch)
  | call : w.toNat % 8 = 4 → s.exp.toNat ≤ s.cfg.rxMax →
      Executes s w ((framed (cmdFields w).opc (payloadOperand s) (s.setCmd w)).setPhase .tx)
  | xfer : w.toNat % 8 = 5 → (cmdFields w).nv.toNat ≤ s.cfg.maxValues.val →
      (cmdFields w).ar.toNat ≤ s.cfg.maxValues.val →
      Executes s w ((framed (cmdFields w).opc (packedOperand (cmdFields w) s) (s.setCmd w)).setPhase .tx)

/-- Any other word is executed. -/
theorem exec_decodeWord_executes (hb : s.busy = false) (hr : ¬ RefusedWord s w) :
    ∃ t, exec (decodeWord w) s = .next t ∧ Executes s w t := by
  have hs := spells_decodeWord hr
  generalize decodeWord w = i at hs
  cases hs with
  | encode hop hcw => exact ⟨_, execEncode_idle hb, hcw.symm ▸ .encode hop⟩
  | encf hop hcw hn => exact ⟨_, execEncf_idle hb hn, hcw.symm ▸ .encf hop⟩
  | decf hop hcw ha =>
    by_cases hl : s.rlen.toNat = 4 * (cmdFields w).ar.toNat
    · exact ⟨_, execDecf_match hb ha hl, hcw.symm ▸ .decfMatch hop ha⟩
    · exact ⟨_, execDecf_mismatch hb ha hl, hcw.symm ▸ .decfMismatch hop ha⟩
  | call hop hcw he => exact ⟨_, execCall_idle hb he, hcw.symm ▸ .call hop he⟩
  | xfer hop hcw hn ha => exact ⟨_, execXfer_idle hb hn ha, hcw.symm ▸ .xfer hop hn ha⟩

/-- The packed payload is that of the fields ENCF and XFER read: SEL only where SELEN = 1 (R92). -/
theorem packedOperand_congr {f g : CmdFields} (hselen : f.selen = g.selen) (hnv : f.nv = g.nv)
    (hsel : f.selen = true → f.sel = g.sel) : packedOperand f s = packedOperand g s := by
  rw [packedOperand, packedOperand, valuesOperand, valuesOperand, pack, pack, ← hselen, ← hnv]
  cases hf : f.selen with
  | false => rfl
  | true => rw [hsel hf]

end Sys2Proof.Machine

namespace Sys2Proof.Claims

open Sys2Proof.Machine

/-- Settles O17: each of the four rows stores its word and refuses it. -/
theorem reservedWordsAreRefused : Obligations.ReservedWordsAreRefused := fun _ _ _ _ hb =>
  ⟨execReservedOp0_idle hb, execReservedOp6_idle hb, execReservedOp7_idle hb, execReservedRsv_idle hb⟩

/-- Settles O18: a refused word only touches CMD and the flags, any other leaves what its operation leaves. -/
theorem wordsAreRefusedExactlyByTheFiveTests : Obligations.WordsAreRefusedExactlyByTheFiveTests := by
  intro s w hb
  refine ⟨fun hr => (refuses_decodeWord hr).exec_eq hb, fun hr => ?_⟩
  obtain ⟨t, ht, hx⟩ := exec_decodeWord_executes hb hr
  refine ⟨t, ht, ?_⟩
  cases hx with
  | encode hop => exact ⟨rfl, fun _ => nofun, fun _ => nofun, by simp [hb, hop, succeed, framed]⟩
  | encf hop => exact ⟨rfl, fun _ => nofun, fun _ => nofun, by simp [hb, hop, succeed, framed]⟩
  | decfMatch hop => exact ⟨rfl, fun _ => nofun, fun _ => nofun, by simp [hb, hop, succeed, putValues]⟩
  | decfMismatch hop => exact ⟨rfl, fun _ => nofun, fun _ => nofun, by simp [hb, hop, putValues]⟩
  | call hop => exact ⟨rfl, id, by omega, by simp [hop]⟩
  | xfer hop => exact ⟨rfl, id, by omega, by simp [hop]⟩

/-- Settles O19: the operands and the tests of R93 are those of the fields read, so the two states differ in CMD. -/
theorem unreadFieldsHaveNoEffect : Obligations.UnreadFieldsHaveNoEffect := by
  intro f g s hb
  refine ⟨fun ho => ?_, fun ho hl hn hsel => ?_, fun ha => ?_, fun ho => ?_, fun ho hl hn ha hsel => ?_⟩
  · exact ⟨_, _, execEncode_idle hb, execEncode_idle hb, by rw [ho]; rfl⟩
  · by_cases hv : s.cfg.maxValues.val < f.nv.toNat
    · exact ⟨_, _, execEncf_refused hb hv, execEncf_refused hb (hn ▸ hv), rfl⟩
    · exact ⟨_, _, execEncf_idle hb (by omega), execEncf_idle hb (by rw [← hn]; omega),
        by rw [packedOperand_congr hl hn hsel, ho]; rfl⟩
  · by_cases hv : s.cfg.maxValues.val < f.ar.toNat
    · exact ⟨_, _, execDecf_refused hb hv, execDecf_refused hb (ha ▸ hv), rfl⟩
    by_cases hm : s.rlen.toNat = 4 * f.ar.toNat
    · exact ⟨_, _, execDecf_match hb (by omega) hm, execDecf_match hb (by rw [← ha]; omega) (ha ▸ hm),
        by rw [rawOperand, rawOperand, ha]; rfl⟩
    · exact ⟨_, _, execDecf_mismatch hb (by omega) hm, execDecf_mismatch hb (by rw [← ha]; omega) (ha ▸ hm),
        by rw [ha]; rfl⟩
  · by_cases hv : s.cfg.rxMax < s.exp.toNat
    · exact ⟨_, _, execCall_refused hb hv, execCall_refused hb hv, rfl⟩
    · exact ⟨_, _, execCall_idle hb (by omega), execCall_idle hb (by omega), by rw [ho]; rfl⟩
  · by_cases hv : s.cfg.maxValues.val < f.nv.toNat ∨ s.cfg.maxValues.val < f.ar.toNat
    · exact ⟨_, _, execXfer_refused hb hv, execXfer_refused hb (hn ▸ ha ▸ hv), rfl⟩
    · exact ⟨_, _, execXfer_idle hb (by omega) (by omega),
        execXfer_idle hb (by rw [← hn]; omega) (by rw [← ha]; omega),
        by rw [packedOperand_congr hl hn hsel, ho]; rfl⟩

end Sys2Proof.Claims
end

section
/-! PROOFS. The exchange in flight (10_state R21, R26), how it ends (60_exceptions R150, 41_dispatcher R120), the
transport's primitives by the draw they take (20_memory R51 to R55), and obligations O21 to O29 and O58. -/

namespace Sys2Proof.Machine

open Claims

variable {s : State}

/-! The exchange in flight, by the numbers of CMD and EXP. -/

theorem transferring_eq (s : State) : transferring s = isTransfer s := by
  have h : (s.cmd.extractLsb' 0 3).toNat = s.cmd.toNat % 8 := slice_toNat s.cmd 0 3 |>.trans (by simp)
  rw [Bool.eq_iff_iff, transferring, isTransfer, beq_iff_eq, beq_iff_eq, ← h, BitVec.toNat_eq]
  rfl

theorem arityInFlight_eq (s : State) : arityInFlight s = arity s := slice_toNat s.cmd 24 4

theorem replySize_eq (s : State) : replySize s = awaited s := by
  rw [replySize, awaited, transferring_eq, arityInFlight_eq]

/-- The word in CMD is in flight exactly when it is a CALL or XFER that R93 does not refuse. -/
theorem inFlightOk_iff (s : State) :
    s.inFlightOk = true ↔ ¬ RefusedWord s s.cmd ∧ (s.cmd.toNat % 8 = 4 ∨ s.cmd.toNat % 8 = 5) := by
  unfold State.inFlightOk
  obtain ⟨hr, ha, -⟩ | ⟨hr, hs⟩ := refuses_or_spells s s.cmd
  · simp only [hr, not_true_eq_false, false_and, iff_false]
    cases h : decodeWord s.cmd <;> simp_all [refusedAtIssue]
    omega
  · generalize decodeWord s.cmd = i at hs
    cases hs with
    | encode hop => simp [hop]
    | encf hop => simp [hop]
    | decf hop => simp [hop]
    | call hop hcw he => simp [hop, hr, he]
    | xfer hop hcw hn ha => simp [hop, hr, hn, ha]

/-- An exchange whose word is not refused awaits at most RX_MAX bytes and MAX_VALUES values (R93, R121). -/
theorem awaited_in_range (hr : ¬ RefusedWord s s.cmd) (hop : s.cmd.toNat % 8 = 4 ∨ s.cmd.toNat % 8 = 5) :
    awaited s ≤ s.cfg.rxMax ∧ (isTransfer s = true → arity s ≤ s.cfg.maxValues.val) := by
  have hmax : s.cfg.rxMax = 4 * s.cfg.maxValues.val := rfl
  unfold RefusedWord at hr
  unfold awaited arity isTransfer
  obtain h | h := hop <;> simp [h] <;> omega

/-- The reply of an exchange in flight fits RBUF, and its values fit VAL (R93). -/
structure InFlight (s : State) : Prop where
  awaited_le : awaited s ≤ s.rbuf.length
  awaited_lt : awaited s < 256
  arity_le : isTransfer s = true → arity s ≤ s.val.length

/-- While BUSY = 1 the invariant says so (R121). -/
theorem State.wf_inFlight (hw : s.wf = true) (hb : s.busy = true) : InFlight s := by
  obtain ⟨-, hval, hrbuf, -, -, -, -, -, hfl⟩ := (State.wf_iff s).mp hw
  obtain ⟨hr, hop⟩ := (inFlightOk_iff s).mp (hfl hb).2
  have hmax := rxMax_le s.cfg
  have hle := awaited_in_range hr hop
  exact ⟨by omega, by omega, by rw [hval]; exact hle.2⟩

/-! How an exchange ends. -/

/-- A file whose first registers take values that fit. -/
theorem overwritten_overwrite {w : Nat} {new : List (BitVec w)} {old : List (Slot w)}
    (h : new.length ≤ old.length) : Overwritten new old (overwrite old (new.map Slot.put)) := by
  rw [Overwritten, overwrite_eq (by simpa using h), List.length_map]

theorem overwritten_zeros {w n : Nat} {old : List (Slot w)} (h : n ≤ old.length) :
    Overwritten (List.replicate n 0) old (overwrite old (List.replicate n (Slot.put 0))) := by
  have hput : List.replicate n (Slot.put (0 : BitVec w)) = (List.replicate n 0).map Slot.put :=
    (List.map_replicate ..).symm
  rw [hput]; exact overwritten_overwrite (by rw [List.length_replicate]; exact h)

/-- The failure entry ends the exchange in flight as R150 says. -/
theorem fail_failed {code : Status} (h : InFlight s) (hc : code ≠ .ok) : Failed code s (fail code s) := by
  obtain ⟨hle, hlt, har⟩ := h
  rw [fail_eq, replySize_eq, transferring_eq, arityInFlight_eq]
  refine ⟨overwritten_zeros hle, ?_, ?_, decide_eq_false hc, rfl, rfl, rfl⟩
  · rw [BitVec.toNat_ofNat]; omega
  · split
    · next ht => exact overwritten_zeros (har ht)
    · rfl

/-- A full read ends the exchange in flight as R120 step 4 and R126 say. -/
theorem finish_succeeded {r : List Byte} (h : InFlight s) (hr : r.length = awaited s) :
    Succeeded r s (finish r s) := by
  obtain ⟨hle, hlt, har⟩ := h
  rw [finish_eq, transferring_eq, hr]
  refine ⟨overwritten_overwrite (by omega), ?_, ?_, rfl, rfl, rfl, rfl⟩
  · rw [BitVec.toNat_ofNat]; omega
  · split
    · next ht =>
      have hlen : r.length = 4 * arity s := by rw [hr, awaited, if_pos ht]
      rw [← wordsOf_eq_valuesIn _ _ hlen]
      exact overwritten_overwrite (by rw [wordsOf_length _ _ hlen]; exact har ht)
    · rfl

/-! The transport's answers. -/

/-- The transport's answer number `k` from here on: the one the state lists, or a free one (log 4). -/
@[irreducible] def State.drawAt (s : State) (k : Nat) : Draw :=
  (s.answers[k]?).getD (Config.freeDraw (s.draws + (k - s.answers.length)))

/-- The state once `k` answers have been asked for. -/
def State.drawn (s : State) (k : Nat) : State :=
  (s.setAnswers (s.answers.drop k)).setDraws (s.draws + (k - s.answers.length))

theorem takeDraw_eq (s : State) : takeDraw s = (s.drawAt 0, s.drawn 1) := by
  cases h : s.answers with
  | nil =>
    have hs : s.setAnswers [] = s := by rw [← h]; rfl
    rw [takeDraw_free h]; simp [State.drawAt, State.drawn, h, hs]
  | cons d rest => rw [takeDraw_listed h]; simp [State.drawAt, State.drawn, h]; rfl

/-- It depends on the list and the counter alone. -/
theorem State.drawAt_congr {t : State} (ha : t.answers = s.answers) (hd : t.draws = s.draws) (k : Nat) :
    t.drawAt k = s.drawAt k := by
  rw [State.drawAt, State.drawAt, ha, hd]

@[simp] theorem State.drawAt_setInputs (s : State) (i : List Input) (k : Nat) :
    (s.setInputs i).drawAt k = s.drawAt k :=
  State.drawAt_congr (t := s.setInputs i) (s := s) rfl rfl k

/-- The answers after the first `j`. -/
theorem State.drawAt_drawn (s : State) (j k : Nat) : (s.drawn j).drawAt k = s.drawAt (j + k) := by
  simp only [State.drawAt, State.drawn, State.setDraws_answers, State.setAnswers_answers, State.setDraws_draws,
    List.getElem?_drop, List.length_drop]
  congr 2; omega

/-- A listed answer is the one taken. -/
theorem State.drawAt_listed {d : Draw} {rest : List Draw} (h : s.answers = d :: rest) : s.drawAt 0 = d := by
  simp [State.drawAt, h]

/-- Taking a listed answer moves only the list. -/
theorem State.drawn_listed {d : Draw} {rest : List Draw} (h : s.answers = d :: rest) :
    s.drawn 1 = { s with answers := rest } := by
  simp [State.drawn, h, State.setAnswers, State.setDraws]

/-! The primitives, by the answer they take (R51 to R55). -/

variable {bytes : List Byte} {n : Nat}

theorem txWrite_ok (hc : s.conn = true) (hd : (s.drawAt 0).fault = false) :
    txWrite bytes s = (true, (s.drawn 1).setTxs (s.txs ++ bytes)) := by
  simp [txWrite, hc, takeDraw_eq, hd]; rfl

theorem txWrite_fault (hc : s.conn = true) (hd : (s.drawAt 0).fault = true) :
    txWrite bytes s = (false,
      ((s.drawn 1).setTxs (s.txs ++ bytes.take (s.drawAt 0).sent)).setConn !(s.drawAt 0).drop) := by
  have hc' : (s.drawn 1).conn = true := hc
  simp [txWrite, hc, takeDraw_eq, hd, dropIf, hc']; rfl

theorem txWrite_unconnected (hc : s.conn = false) : txWrite bytes s = (false, s) := by simp [txWrite, hc]

theorem txFlush_ok (hc : s.conn = true) (hd : (s.drawAt 0).fault = false) : txFlush s = (true, s.drawn 1) := by
  simp [txFlush, hc, takeDraw_eq, hd]

theorem txFlush_fault (hc : s.conn = true) (hd : (s.drawAt 0).fault = true) :
    txFlush s = (false, (s.drawn 1).setConn !(s.drawAt 0).drop) := by
  have hc' : (s.drawn 1).conn = true := hc
  simp [txFlush, hc, takeDraw_eq, hd, dropIf, hc']

theorem txFlush_unconnected (hc : s.conn = false) : txFlush s = (false, s) := by simp [txFlush, hc]

theorem rxRead_ok (hn : 0 < n) (hc : s.conn = true) (hd : (s.drawAt 0).fault = false) :
    rxRead n s = (some (s.rxq.take (min n (s.drawAt 0).got)),
      (s.drawn 1).setRxq (s.rxq.drop (min n (s.drawAt 0).got))) := by
  rw [rxRead, if_neg (by omega), if_pos hc]
  simp [takeDraw_eq, hd]; exact ⟨rfl, rfl⟩

theorem rxRead_fault (hn : 0 < n) (hc : s.conn = true) (hd : (s.drawAt 0).fault = true) :
    rxRead n s = (none, (s.drawn 1).setConn !(s.drawAt 0).drop) := by
  have hc' : (s.drawn 1).conn = true := hc
  rw [rxRead, if_neg (by omega), if_pos hc]
  simp [takeDraw_eq, hd, dropIf, hc']

theorem rxRead_unconnected (hn : 0 < n) (hc : s.conn = false) : rxRead n s = (none, s) := by
  rw [rxRead, if_neg (by omega), if_neg (by simp [hc])]

theorem rxRead_zero (s : State) : rxRead 0 s = (some [], s) := if_pos rfl

/-! The steps of the exchange. -/

variable {opc ck : Byte} {p : List Byte}

/-- TX answered ok: the whole frame on the wire, and on to FLUSH (R121). -/
theorem execFrame_ok (h : s.phase = .tx) (hp : p.length ≤ 255) (hc : s.conn = true)
    (hd : (s.drawAt 0).fault = false) :
    execFrame opc p ck s =
      .next (((s.drawn 1).setTxs (s.txs ++ (frameHead s.cfg opc p ++ [ck]))).setPhase .flush) := by
  rw [execFrame_tx h hp, txWrite_ok hc hd]

/-- TX faulting: what the draw says is on the wire, and the exchange fails (R51, R150). -/
theorem execFrame_fault (h : s.phase = .tx) (hp : p.length ≤ 255) (hc : s.conn = true)
    (hd : (s.drawAt 0).fault = true) :
    execFrame opc p ck s =
      .next (fail .transportFault
        (((s.drawn 1).setTxs (s.txs ++ (frameHead s.cfg opc p ++ [ck]).take (s.drawAt 0).sent)).setConn
          !(s.drawAt 0).drop)) := by
  rw [execFrame_tx h hp, txWrite_fault hc hd]

/-- TX with no connection (R55). -/
theorem execFrame_unconnected (h : s.phase = .tx) (hp : p.length ≤ 255) (hc : s.conn = false) :
    execFrame opc p ck s = .next (fail .transportFault s) := by
  rw [execFrame_tx h hp, txWrite_unconnected hc]

theorem flushStep_ok (hc : s.conn = true) (hd : (s.drawAt 0).fault = false) :
    flushStep s = (s.drawn 1).setPhase .rx := by
  rw [flushStep, txFlush_ok hc hd]

theorem flushStep_fault (hc : s.conn = true) (hd : (s.drawAt 0).fault = true) :
    flushStep s = fail .transportFault ((s.drawn 1).setConn !(s.drawAt 0).drop) := by
  rw [flushStep, txFlush_fault hc hd]

theorem flushStep_unconnected (hc : s.conn = false) : flushStep s = fail .transportFault s := by
  rw [flushStep, txFlush_unconnected hc]

/-- RX with all awaited bytes answered: they leave RXQ and are the reply (R53, R121). -/
theorem readStep_full (hp : s.phase = .rx) (hn : 0 < awaited s) (hc : s.conn = true)
    (hd : (s.drawAt 0).fault = false) (hg : awaited s ≤ (s.drawAt 0).got) (hq : awaited s ≤ s.rxq.length) :
    readStep s =
      .next (finish (s.rxq.take (awaited s)) ((s.drawn 1).setRxq (s.rxq.drop (awaited s)))) := by
  rw [readStep_eq, replySize_eq, rxRead_ok hn hc hd, Nat.min_eq_left hg]
  exact execReply_full hp ((List.length_take_of_le hq).trans (replySize_eq s).symm)

/-- RX with fewer bytes answered: they leave RXQ and are discarded (R141, R150). -/
theorem readStep_short (hp : s.phase = .rx) (hn : 0 < awaited s) (hc : s.conn = true)
    (hd : (s.drawAt 0).fault = false) (hs : (s.drawAt 0).got < awaited s ∨ s.rxq.length < awaited s) :
    readStep s =
      .next (fail .shortRead ((s.drawn 1).setRxq (s.rxq.drop (min (awaited s) (s.drawAt 0).got)))) := by
  rw [readStep_eq, replySize_eq, rxRead_ok hn hc hd]
  refine execReply_short hp (Nat.lt_of_lt_of_eq ?_ (replySize_eq s).symm)
  rw [List.length_take]; omega

theorem readStep_fault (hn : 0 < awaited s) (hc : s.conn = true) (hd : (s.drawAt 0).fault = true) :
    readStep s = .next (fail .transportFault ((s.drawn 1).setConn !(s.drawAt 0).drop)) := by
  rw [readStep_eq, replySize_eq, rxRead_fault hn hc hd]

theorem readStep_unconnected (hn : 0 < awaited s) (hc : s.conn = false) :
    readStep s = .next (fail .transportFault s) := by
  rw [readStep_eq, replySize_eq, rxRead_unconnected hn hc]

/-- RX with no byte awaited: no transport is asked (R54). -/
theorem readStep_none (hp : s.phase = .rx) (hn : awaited s = 0) : readStep s = .next (finish [] s) := by
  rw [readStep_eq, replySize_eq, hn, rxRead_zero]
  exact execReply_full hp ((replySize_eq s).trans hn).symm

/-- More bytes than awaited: the first of them are the reply, the others go back to RXQ (R181). -/
theorem execReply_surplus (hp : s.phase = .rx) (hl : awaited s ≤ bytes.length) :
    execReply bytes s =
      .next (finish (bytes.take (awaited s)) (s.setRxq (bytes.drop (awaited s) ++ s.rxq))) := by
  rw [execReply, if_neg (by simpa using hp), replySize_eq, if_neg (by omega)]

end Sys2Proof.Machine

namespace Sys2Proof.Claims

open Sys2Proof.Machine

/-- Settles O21: each primitive by the listed draw, and without a connection. -/
theorem primitivesMoveTheStreamsAsStated : Obligations.PrimitivesMoveTheStreamsAsStated := by
  refine ⟨fun s bytes d rest hc ha => ?_, fun s bytes hc => ?_, rxRead_zero⟩
  · obtain rfl := State.drawAt_listed ha
    have hs := State.drawn_listed ha
    refine ⟨fun hd => ⟨?_, ?_, fun n hn => ?_⟩, fun hd => ⟨?_, ?_, fun n hn => ?_⟩⟩
    · rw [txWrite_ok hc hd, hs]; rfl
    · rw [txFlush_ok hc hd, hs]
    · rw [rxRead_ok hn hc hd, hs]; rfl
    · rw [txWrite_fault hc hd, hs]; rfl
    · rw [txFlush_fault hc hd, hs]; rfl
    · rw [rxRead_fault hn hc hd, hs]; rfl
  · exact ⟨txWrite_unconnected hc, txFlush_unconnected hc, fun n hn => rxRead_unconnected hn hc⟩

/-- Settles O22: `fail` writes the registers of R150 and no other. -/
theorem failureEntryWritesOnlyThese : Obligations.FailureEntryWritesOnlyThese := by
  intro code s hw hb hc
  refine ⟨fail_failed (State.wf_inFlight hw hb) hc, ?_⟩
  rw [fail_eq, decide_eq_false hc]

/-- Settles O23: the listed draw is ok, so `TxWrite` appends the whole frame. -/
theorem frameGoesOutWhole : Obligations.FrameGoesOutWhole := by
  intro opc ck p s d rest hp hl hc ha hd
  obtain rfl := State.drawAt_listed ha
  refine (execFrame_ok hp hl hc hd).trans ?_
  rw [State.drawn_listed ha]; rfl

/-- Settles O24: `TxWrite` faults, with the drawn part sent or with nothing, and the exchange fails. -/
theorem faultAtTheWriteFailsTheCall : Obligations.FaultAtTheWriteFailsTheCall := by
  intro opc ck p s hw hp hl
  have hfl := State.wf_inFlight hw (State.wf_busy hw (by simp [hp]))
  refine ⟨fun d rest hc ha hd => ?_, fun hc => ?_⟩
  · obtain rfl := State.drawAt_listed ha
    refine ⟨_, execFrame_fault hp hl hc hd, ?_⟩
    rw [State.drawn_listed ha]
    refine ⟨fail_failed (s := State.setConn _ _) ?_ nofun, ?_⟩
    · exact ⟨hfl.1, hfl.2, hfl.3⟩
    · rw [fail_eq]; exact ⟨rfl, rfl, rfl, rfl⟩
  · exact ⟨_, execFrame_unconnected hp hl hc, fail_failed hfl nofun, by rw [fail_eq]⟩

/-- Settles O25: no frame has such a payload. -/
theorem oversizedFrameIsRefused : Obligations.OversizedFrameIsRefused := fun _ _ _ _ => execFrame_tooLong

/-- Settles O26: the flush goes on to RX or fails; no stream is named in what it writes. -/
theorem flushOrdersTheWriteBeforeTheRead : Obligations.FlushOrdersTheWriteBeforeTheRead := by
  intro s hw hi hp
  have hfl := State.wf_inFlight hw (State.wf_busy hw (by simp [hp]))
  rw [step_flush hi hp]
  refine ⟨fun d rest hc ha hd => ?_, fun d rest hc ha hd => ?_, fun hc => ?_⟩
  · obtain rfl := State.drawAt_listed ha
    rw [flushStep_ok hc hd, State.drawn_listed ha]; rfl
  · obtain rfl := State.drawAt_listed ha
    refine ⟨_, rfl, ?_⟩
    rw [flushStep_fault hc hd, State.drawn_listed ha]
    refine ⟨fail_failed (s := State.setConn _ _) ⟨hfl.1, hfl.2, hfl.3⟩ nofun, ?_⟩
    rw [fail_eq]; exact ⟨rfl, rfl, rfl⟩
  · refine ⟨_, rfl, ?_⟩
    rw [flushStep_unconnected hc]
    exact ⟨fail_failed hfl nofun, by rw [fail_eq]⟩

/-- Settles O27: the reply is taken whole, whatever its bytes. -/
theorem fullReplyIsAccepted : Obligations.FullReplyIsAccepted := by
  intro r s hw hp hl
  have hfl := State.wf_inFlight hw (State.wf_busy hw (by simp [hp]))
  exact ⟨_, execReply_full hp (hl.trans (replySize_eq s).symm), finish_succeeded hfl hl, by rw [finish_eq]⟩

/-- Settles O28: a short reply fails the exchange. -/
theorem shortReplyFailsWithZeros : Obligations.ShortReplyFailsWithZeros := by
  intro r s hw hp hl
  have hfl := State.wf_inFlight hw (State.wf_busy hw (by simp [hp]))
  exact ⟨_, execReply_short hp (Nat.lt_of_lt_of_eq hl (replySize_eq s).symm), fail_failed hfl nofun, by rw [fail_eq]⟩

/-- Settles O29: the RX step by the listed draw, by how many bytes it and RXQ have, and with none awaited. -/
theorem readTakesTheHeadOfTheReceiveStream : Obligations.ReadTakesTheHeadOfTheReceiveStream := by
  intro s hw hi hp
  have hfl := State.wf_inFlight hw (State.wf_busy hw (by simp [hp]))
  rw [step_rx hi hp]
  refine ⟨fun d rest hn hc ha hd => ?_, fun d rest hn hc ha hd => ?_, fun hn hc => ?_, fun hn => ?_⟩
  · obtain rfl := State.drawAt_listed ha
    by_cases hfull : awaited s ≤ (s.drawAt 0).got ∧ awaited s ≤ s.rxq.length
    · obtain ⟨hg, hq⟩ := hfull
      refine ⟨_, readStep_full hp hn hc hd hg hq, ?_⟩
      rw [State.drawn_listed ha, Nat.min_eq_left hg]
      have hsucc := finish_succeeded (s := State.setRxq { s with answers := rest } (s.rxq.drop (awaited s)))
        ⟨hfl.1, hfl.2, hfl.3⟩ (List.length_take_of_le hq)
      rw [finish_eq] at hsucc ⊢
      exact ⟨rfl, rfl, fun _ _ => hsucc, by omega, rfl⟩
    · refine ⟨_, readStep_short hp hn hc hd (by omega), ?_⟩
      rw [State.drawn_listed ha]
      have hfail := fail_failed (code := .shortRead)
        (s := State.setRxq { s with answers := rest } (s.rxq.drop (min (awaited s) (s.drawAt 0).got)))
        ⟨hfl.1, hfl.2, hfl.3⟩ nofun
      rw [fail_eq] at hfail ⊢
      exact ⟨rfl, rfl, by omega, fun _ => hfail, rfl⟩
  · obtain rfl := State.drawAt_listed ha
    refine ⟨_, readStep_fault hn hc hd, ?_⟩
    rw [State.drawn_listed ha]
    refine ⟨fail_failed (s := State.setConn _ _) ⟨hfl.1, hfl.2, hfl.3⟩ nofun, ?_⟩
    rw [fail_eq]; exact ⟨rfl, rfl, rfl⟩
  · exact ⟨_, readStep_unconnected hn hc, fail_failed hfl nofun, by rw [fail_eq]⟩
  · refine ⟨_, readStep_none hp hn, finish_succeeded hfl hn.symm, ?_⟩
    rw [finish_eq]; simp [overwrite, wordsOf]

/-- Settles O58: no arrow outside the format's phase; at RX the surplus goes back to RXQ. -/
theorem wireFormatsActOnlyInTheirPhase : Obligations.WireFormatsActOnlyInTheirPhase := by
  refine ⟨fun opc ck p s hp => execFrame_elsewhere hp, fun r s hp => execReply_elsewhere hp,
    fun r s hw hp hl => ?_⟩
  have hfl := State.wf_inFlight hw (State.wf_busy hw (by simp [hp]))
  have hsucc := finish_succeeded (s := s.setRxq (r.drop (awaited s) ++ s.rxq)) ⟨hfl.1, hfl.2, hfl.3⟩
    (List.length_take_of_le (Nat.le_of_lt hl))
  exact ⟨_, execReply_surplus hp (Nat.le_of_lt hl), hsucc, by rw [finish_eq]; rfl, by rw [finish_eq]; rfl⟩

end Sys2Proof.Claims
end

section
/-! PROOFS. Results by their operands alone: the frames that ENCODE, ENCF, CALL and XFER build and the values that DECF
leaves (40_codec R103, R105, R107, 41_dispatcher R120, R126), and obligations O9, O12, O14, O15, O16, O44, O56 and
O57. -/

namespace Sys2Proof.Claims

open Sys2Proof.Machine

variable {s t u a b : State} {f : CmdFields}

/-! Files. -/

/-- Values just written stand in the first registers. -/
theorem Overwritten.take_eq {w : Nat} {new : List (BitVec w)} {old file : List (Slot w)}
    (h : Overwritten new old file) : file.take new.length = new.map Slot.put := by
  rw [h, List.take_left' (List.length_map ..)]

theorem firstBits_of_take {w n : Nat} {new : List (BitVec w)} {file : List (Slot w)}
    (h : file.take n = new.map Slot.put) : firstBits n file = new := by
  rw [firstBits, h, List.map_map]
  exact List.map_id new

/-- Registers marked as written in one file and found in another read the same in both. -/
theorem readFirst_congr {w n : Nat} {x y : List (Slot w)} (hx : writtenFirst n x = true)
    (h : ∀ (k : Nat) (z : Slot w), x[k]? = some z → z.written = true → y[k]? = some z) :
    readFirst n x = readFirst n y := by
  refine List.map_congr_left fun i hi => ?_
  have hwr := List.all_eq_true.mp hx i hi
  cases hz : x[i]? with
  | none => rw [hz] at hwr; cases hwr
  | some z => rw [h i z hz (by rw [hz] at hwr; exact hwr)]

/-! Frames. -/

/-- A state that holds a frame has its bytes in FRM[0..FLEN-1]. -/
theorem HoldsFrame.frame_eq {bytes : List Byte} (h : HoldsFrame bytes t) : t.frm.take t.flen.toNat = bytes := by
  rw [h.2, h.1]

/-- Two states that hold the same frame agree on FRM[0..FLEN-1] and FLEN. -/
theorem HoldsFrame.agree {bytes : List Byte} (ht : HoldsFrame bytes t) (hu : HoldsFrame bytes u) :
    t.frm.take t.flen.toNat = u.frm.take u.flen.toNat ∧ t.flen = u.flen :=
  ⟨ht.frame_eq.trans hu.frame_eq.symm, BitVec.eq_of_toNat_eq (ht.2.trans hu.2.symm)⟩

/-- What ENCODE and CALL build (R103, R120). -/
theorem payload_holdsFrame (hw : s.wf = true) (opc : Byte) (w : Word) :
    HoldsFrame (wireFrame s.cfg opc (payloadOperand s)) (framed opc (payloadOperand s) (s.setCmd w)) := by
  obtain ⟨-, -, -, hfrm, -⟩ := (State.wf_iff s).mp hw
  exact framed_holdsFrame (s := s.setCmd w) opc (payloadOperand_length_le s) hfrm

/-- What ENCF and XFER build (R105, R126). -/
theorem packed_holdsFrame (hw : s.wf = true) (f : CmdFields) (w : Word) :
    HoldsFrame (wireFrame s.cfg f.opc (packedOperand f s)) (framed f.opc (packedOperand f s) (s.setCmd w)) := by
  obtain ⟨-, -, -, hfrm, -⟩ := (State.wf_iff s).mp hw
  exact framed_holdsFrame (s := s.setCmd w) f.opc (packedOperand_length_le f s) hfrm

/-- Equal parameters and payloads make equal frames, whatever FRM held. -/
theorem payload_agree (hwa : a.wf = true) (hwb : b.wf = true) (hcfg : a.cfg = b.cfg)
    (hp : payloadOperand a = payloadOperand b) (opc : Byte) (w : Word) :
    (framed opc (payloadOperand a) (a.setCmd w)).frm.take (framed opc (payloadOperand a) (a.setCmd w)).flen.toNat =
      (framed opc (payloadOperand b) (b.setCmd w)).frm.take (framed opc (payloadOperand b) (b.setCmd w)).flen.toNat ∧
    (framed opc (payloadOperand a) (a.setCmd w)).flen = (framed opc (payloadOperand b) (b.setCmd w)).flen := by
  have ha := payload_holdsFrame hwa opc w
  have hb := payload_holdsFrame hwb opc w
  rw [hcfg, congrArg (wireFrame b.cfg opc) hp] at ha
  exact ha.agree hb

theorem packed_agree (hwa : a.wf = true) (hwb : b.wf = true) (hcfg : a.cfg = b.cfg)
    (hp : packedOperand f a = packedOperand f b) (w : Word) :
    (framed f.opc (packedOperand f a) (a.setCmd w)).frm.take
        (framed f.opc (packedOperand f a) (a.setCmd w)).flen.toNat =
      (framed f.opc (packedOperand f b) (b.setCmd w)).frm.take
        (framed f.opc (packedOperand f b) (b.setCmd w)).flen.toNat ∧
    (framed f.opc (packedOperand f a) (a.setCmd w)).flen = (framed f.opc (packedOperand f b) (b.setCmd w)).flen := by
  have ha := packed_holdsFrame hwa f w
  have hb := packed_holdsFrame hwb f w
  rw [hcfg, congrArg (wireFrame b.cfg f.opc) hp] at ha
  exact ha.agree hb

/-- The payload of ENCF, put into PAY with its length in PLEN, is the operand of ENCODE (R105). -/
theorem payloadOperand_loaded {p : List Byte} (hp : p.length ≤ 255)
    (hpay : t.pay = p.map Slot.put ++ s.pay.drop p.length) (hplen : t.plen = BitVec.ofNat 8 p.length) : payloadOperand t = p := by
  have hn : t.plen.toNat = p.length := by rw [hplen, BitVec.toNat_ofNat]; omega
  have htake : t.pay.take p.length = p.map Slot.put := hpay ▸ List.take_left' (List.length_map ..)
  rw [payloadOperand, hn, readFirst_eq_take (by rw [hpay]; simp)]
  exact firstBits_of_take htake

/-! The word in CMD. -/

theorem awaited_congr (hc : t.cmd = u.cmd) (he : t.exp = u.exp) : awaited t = awaited u := by
  rw [awaited, awaited, isTransfer, isTransfer, arity, arity, hc, he]

/-- An XFER's word says so, and its arity (R90, R91). -/
theorem isTransfer_xfer (h : t.cmd = commandWord 0 5 f) : isTransfer t = true := by
  have := commandWord_toNat 0 5 f
  rw [isTransfer, h, beq_iff_eq]
  have h5 : (5 : BitVec 3).toNat = 5 := rfl
  omega

theorem isTransfer_call (h : t.cmd = commandWord 0 4 f) : isTransfer t = false := by
  have := commandWord_toNat 0 4 f
  rw [isTransfer, h, beq_eq_false_iff_ne]
  have h4 : (4 : BitVec 3).toNat = 4 := rfl
  omega

theorem arity_commandWord {op : BitVec 3} (h : t.cmd = commandWord 0 op f) : arity t = f.ar.toNat := by
  rw [← (cmdFields_commandWord 0 op f).2.2, cmdFields_ar_toNat, arity, h]

/-- An XFER awaits four bytes per value (R121). -/
theorem awaited_xfer (h : t.cmd = commandWord 0 5 f) : awaited t = 4 * f.ar.toNat := by
  rw [awaited, if_pos (isTransfer_xfer h), arity_commandWord h]

/-- A CALL awaits EXP bytes (R121). -/
theorem awaited_call (h : t.cmd = commandWord 0 4 f) : awaited t = t.exp.toNat := by
  rw [awaited, if_neg (by simp [isTransfer_call h])]

/-! DECF. -/

/-- The values DECF leaves: those of RBUF where RLEN fits, else zeros (R107). -/
def decfValues (f : CmdFields) (s : State) : List Word :=
  if s.rlen.toNat = 4 * f.ar.toNat then valuesIn (rawOperand f s) f.ar.toNat else List.replicate f.ar.toNat 0

/-- The code it ends with (R107). -/
def decfStatus (f : CmdFields) (s : State) : Status := if s.rlen.toNat = 4 * f.ar.toNat then .ok else .lenMismatch

theorem valuesIn_length (bytes : List Byte) (n : Nat) : (valuesIn bytes n).length = n := by simp [valuesIn]

@[simp] theorem decfValues_length (f : CmdFields) (s : State) : (decfValues f s).length = f.ar.toNat := by
  unfold decfValues
  split
  · exact valuesIn_length _ _
  · exact List.length_replicate

/-- DECF leaves these values and this code (R107). -/
theorem execDecf_leaves (hw : s.wf = true) (hb : s.busy = false) (ha : f.ar.toNat ≤ s.cfg.maxValues.val) :
    ∃ t, execDecf f s = .next t ∧ t.val.take f.ar.toNat = (decfValues f s).map Slot.put ∧
      t.ok = decide (decfStatus f s = .ok) ∧ t.status = decfStatus f s := by
  obtain ⟨-, hval, -⟩ := (State.wf_iff s).mp hw
  have hv := decfValues_length f s
  by_cases hl : s.rlen.toNat = 4 * f.ar.toNat
  · refine ⟨_, execDecf_match hb ha hl, ?_⟩
    have hraw := wordsOf_eq_valuesIn _ _ (rawOperand_length f s)
    simp only [decfValues, decfStatus, if_pos hl] at hv ⊢
    refine ⟨?_, rfl, rfl⟩
    have h := (putValues_overwritten (vs := valuesIn (rawOperand f s) f.ar.toNat)
      (s := s.setCmd (commandWord 0 3 f)) (by rw [hv, State.setCmd_val]; omega)).take_eq
    rw [hraw]
    rwa [hv] at h
  · refine ⟨_, execDecf_mismatch hb ha hl, ?_⟩
    simp only [decfValues, decfStatus, if_neg hl] at hv ⊢
    refine ⟨?_, rfl, rfl⟩
    have h := (putValues_overwritten (vs := List.replicate f.ar.toNat pzero) (s := s.setCmd (commandWord 0 3 f))
      (by rw [hv, State.setCmd_val]; omega)).take_eq
    rwa [hv] at h

/-- Values survive the packing (R112). -/
theorem wordsOf_flatMap_le32 (vs : List Word) : wordsOf (vs.flatMap le32) = vs := by
  induction vs with
  | nil => rfl
  | cons v vs ih =>
    rw [List.flatMap_cons]
    exact congrArg₂ List.cons (fromLe32_le32 v) ih

/-! The obligations. -/

/-- Settles O9: DECF reads the packed bytes four at a time, which gives the values back. -/
theorem packedValuesDecodeToThemselves : Obligations.PackedValuesDecodeToThemselves := by
  intro s f vs hw hb ha hlen _ hl hr
  obtain ⟨t, ht, hval, hok, -⟩ := execDecf_leaves hw hb ha
  have hraw : rawOperand f s = vs.flatMap le32 := by rw [rawOperand_eq hw ha, ← hlen, hr]; rfl
  have hvs : decfValues f s = vs := by
    rw [decfValues, if_pos (by omega), ← wordsOf_eq_valuesIn _ _ (rawOperand_length f s), hraw, wordsOf_flatMap_le32]
  rw [decfStatus, if_pos (by omega)] at hok
  rw [hvs, ← hlen] at hval
  exact ⟨t, ht, hok, firstBits_of_take hval⟩

/-- Settles O12: the host's copy of the packed payload is ENCODE's operand, so both build one frame over one FRM. -/
theorem encfIsEncodeOfThePackedPayload : Obligations.EncfIsEncodeOfThePackedPayload := by
  intro f g s hw hb hn ho
  have hp : (floatPayload f s).length ≤ 255 := packedOperand_eq hw hn ▸ packedOperand_length_le f s
  refine ⟨_, _, execEncf_idle hb hn, execEncode_idle hb, ?_⟩
  rw [payloadOperand_loaded (s := s) hp rfl rfl, packedOperand_eq hw hn, ho]
  exact ⟨rfl, rfl, rfl, rfl⟩

/-- Settles O14: CALL's issue frames PAY[0..PLEN-1] and goes to TX. -/
theorem callIssueBuildsTheFrame : Obligations.CallIssueBuildsTheFrame := by
  intro f s hw hb _ he
  have hf := payload_holdsFrame hw f.opc (commandWord 0 4 f)
  rw [payloadOperand_eq hw] at hf
  refine ⟨_, execCall_idle hb he, ?_⟩
  rw [payloadOperand_eq hw]
  exact ⟨hf, rfl, rfl, rfl, rfl⟩

/-- Settles O15: XFER's issue frames the packed payload and goes to TX. -/
theorem xferIssueBuildsTheFrame : Obligations.XferIssueBuildsTheFrame := by
  intro f s hw hb _ hn ha
  have hf := packed_holdsFrame hw f (commandWord 0 5 f)
  rw [packedOperand_eq hw hn] at hf
  refine ⟨_, execXfer_idle hb hn ha, ?_⟩
  rw [packedOperand_eq hw hn]
  exact ⟨hf, rfl, rfl, rfl, rfl⟩

/-- Settles O16: none of the five meanings looks at a register's mark. -/
theorem unwrittenOperandsAreUsedAsHeld : Obligations.UnwrittenOperandsAreUsedAsHeld := by
  intro f s hw hb hn ha he
  rw [← payloadOperand_eq hw, ← packedOperand_eq hw hn, ← rawOperand_eq hw ha]
  refine ⟨⟨_, execEncode_idle hb, payload_holdsFrame hw _ _⟩, ⟨_, execEncf_idle hb hn, packed_holdsFrame hw _ _⟩, ?_,
    ⟨_, execCall_idle hb he, rfl, payload_holdsFrame hw _ _⟩,
    ⟨_, execXfer_idle hb hn ha, rfl, packed_holdsFrame hw _ _⟩⟩
  obtain ⟨t, ht, hval, -⟩ := execDecf_leaves hw hb ha
  refine ⟨t, ht, fun hl => ?_⟩
  rw [decfValues, if_pos hl] at hval
  exact firstBits_of_take hval

/-- Settles O44: equal operands make equal frames and equal values. -/
theorem codecResultsDependOnTheirOperandsOnly : Obligations.CodecResultsDependOnTheirOperandsOnly := by
  intro f a b hwa hwb hba hbb hcfg
  refine ⟨fun hplen hpay => ?_, fun hn hval => ?_, fun ha hrlen hrbuf => ?_⟩
  · have hp : payloadOperand a = payloadOperand b := by
      rw [payloadOperand_eq hwa, payloadOperand_eq hwb, ← hplen, hpay]
    obtain ⟨hfrm, hflen⟩ := payload_agree hwa hwb hcfg hp f.opc (commandWord 0 1 f)
    exact ⟨_, _, execEncode_idle hba, execEncode_idle hbb, hfrm, hflen, rfl, rfl⟩
  · have hnb : f.nv.toNat ≤ b.cfg.maxValues.val := hcfg ▸ hn
    have hp : packedOperand f a = packedOperand f b := by
      rw [packedOperand_eq hwa hn, packedOperand_eq hwb hnb, floatPayload, floatPayload, hval]
    obtain ⟨hfrm, hflen⟩ := packed_agree hwa hwb hcfg hp (commandWord 0 2 f)
    exact ⟨_, _, execEncf_idle hba hn, execEncf_idle hbb hnb, hfrm, hflen, rfl, rfl⟩
  · have hab : f.ar.toNat ≤ b.cfg.maxValues.val := hcfg ▸ ha
    obtain ⟨t, ht, htv, hto, hts⟩ := execDecf_leaves hwa hba ha
    obtain ⟨u, hu, huv, huo, hus⟩ := execDecf_leaves hwb hbb hab
    have hstatus : decfStatus f a = decfStatus f b := by rw [decfStatus, decfStatus, hrlen]
    have hvalues : decfValues f a = decfValues f b := by
      by_cases hl : a.rlen.toNat = 4 * f.ar.toNat
      · rw [hl] at hrbuf
        rw [decfValues, decfValues, rawOperand_eq hwa ha, rawOperand_eq hwb hab, hrbuf, hrlen]
      · rw [decfValues, decfValues, if_neg hl, if_neg (hrlen ▸ hl)]
    exact ⟨t, u, ht, hu, by rw [htv, huv, hvalues], by rw [hto, huo, hstatus], by rw [hts, hus, hstatus]⟩

/-- Settles O56: loaded operands read the same in both states, and nothing else goes into these results. -/
theorem loadedOperandsMakeUnwrittenRegistersIrrelevant :
    Obligations.LoadedOperandsMakeUnwrittenRegistersIrrelevant := by
  intro f a b hwa hwb hba hbb hcfg hplen hexp hrlen hpay hval hrbuf
  have hpayload (h : writtenFirst a.plen.toNat a.pay = true) : payloadOperand a = payloadOperand b :=
    (readFirst_congr h hpay).trans (by rw [hplen]; rfl)
  have hpacked (h : writtenFirst f.nv.toNat a.val = true) : packedOperand f a = packedOperand f b :=
    congrArg (pack f.selen f.sel) (readFirst_congr h hval)
  refine ⟨fun h => ?_, fun h hn => ?_, fun h ha => ?_, fun h he => ?_, fun h hn ha => ?_⟩
  · exact ⟨_, _, execEncode_idle hba, execEncode_idle hbb, payload_agree hwa hwb hcfg (hpayload h) f.opc _⟩
  · exact ⟨_, _, execEncf_idle hba hn, execEncf_idle hbb (hcfg ▸ hn), packed_agree hwa hwb hcfg (hpacked h) _⟩
  · obtain ⟨t, ht, htv, hto, hts⟩ := execDecf_leaves hwa hba ha
    obtain ⟨u, hu, huv, huo, hus⟩ := execDecf_leaves hwb hbb (hcfg ▸ ha)
    have hstatus : decfStatus f a = decfStatus f b := by rw [decfStatus, decfStatus, hrlen]
    have hvalues : decfValues f a = decfValues f b := by
      by_cases hl : a.rlen.toNat = 4 * f.ar.toNat
      · have hwr : writtenFirst (4 * f.ar.toNat) a.rbuf = true := by simpa [operandsLoaded, hl] using h
        have hraw : rawOperand f a = rawOperand f b := readFirst_congr hwr hrbuf
        rw [decfValues, decfValues, hraw, hrlen]
      · rw [decfValues, decfValues, if_neg hl, if_neg (hrlen ▸ hl)]
    exact ⟨t, u, ht, hu, by rw [htv, huv, hvalues], by rw [hto, huo, hstatus], by rw [hts, hus, hstatus]⟩
  · obtain ⟨hfrm, hflen⟩ := payload_agree hwa hwb hcfg (hpayload h) f.opc (commandWord 0 4 f)
    exact ⟨_, _, execCall_idle hba he, execCall_idle hbb (hcfg ▸ hexp ▸ he), rfl, rfl, hfrm, hflen,
      awaited_congr rfl hexp⟩
  · obtain ⟨hfrm, hflen⟩ := packed_agree hwa hwb hcfg (hpacked h) (commandWord 0 5 f)
    exact ⟨_, _, execXfer_idle hba hn ha, execXfer_idle hbb (hcfg ▸ hn) (hcfg ▸ ha), rfl, rfl, hfrm, hflen,
      awaited_congr rfl hexp⟩

/-- A shape that fits the direction sends values for a write and none for a pure read (R130). -/
theorem shapeFits_iff (d : Direction) (p : Shape) :
    shapeFits d p = true ↔ (d = .write → p.nv ≠ 0) ∧ (d = .read → p.nv = 0) := by
  cases d <;> simp [shapeFits]

/-- Settles O57: the use expands to its XFER, whose issue frames the entry's opcode and awaits its arity. -/
theorem registryEntryIsOneTransfer : Obligations.RegistryEntryIsOneTransfer := by
  refine ⟨fun e chosen p sel s hw hb hp hwr hrd hn ha => ?_, fun e chosen sel i h => ?_⟩
  · have hfits : shapeFits e.direction (shapeUsed e chosen) = true := by
      rw [shapeUsed, hp]; exact (shapeFits_iff _ _).mpr ⟨hwr, hrd⟩
    have hx : transferOf e chosen sel =
        some (.xfer { selen := p.selen, nv := p.nv, opc := e.opcode, sel := sel, ar := e.replyArity }) := by
      rw [← hp]; exact if_pos hfits
    generalize hf : ({ selen := p.selen, nv := p.nv, opc := e.opcode, sel := sel, ar := e.replyArity } : CmdFields) = f
      at hx
    have hheld := packed_holdsFrame hw f (commandWord 0 5 f)
    have haw : awaited ((framed f.opc (packedOperand f s) (s.setCmd (commandWord 0 5 f))).setPhase .tx) =
        4 * f.ar.toNat := awaited_xfer rfl
    refine ⟨f, _, hx, rfl, execXfer_idle hb (by rw [← hf]; exact hn) (by rw [← hf]; exact ha), rfl, ?_, ?_, ?_, ?_⟩
    · have hbyte := congrArg (·[1]?) hheld.1
      rw [List.getElem?_take_of_lt (by rw [wireFrame_length]; omega)] at hbyte
      exact hbyte.trans (by rw [← hf]; rfl)
    · refine hheld.2.trans ?_
      rw [wireFrame_length, packedOperand_length, ← hf, Nat.add_assoc]
    · rw [haw, ← hf]; rfl
    · rw [haw, ← hf]
  · simp only [transferOf] at h
    split at h
    · next hfits =>
      obtain ⟨hwr, hrd⟩ := (shapeFits_iff _ _).mp hfits
      cases h
      refine ⟨_, rfl, fun hd => ?_, fun hd => ?_⟩
      · exact Nat.pos_of_ne_zero fun h0 => hwr hd (BitVec.eq_of_toNat_eq h0)
      · exact congrArg BitVec.toNat (hrd hd)
    · cases h

end Sys2Proof.Claims
end

section
/-! PROOFS. The host's side (10_state R32, R33, R42, 41_dispatcher R135, 70_reset R170): which offsets are listed, what
a write, a read and the other moves answer, and obligations O20, O30, O48 to O50 and O52 to O55. -/

namespace Sys2Proof.Machine

open Claims

variable {s t : State} {c : Config} {offset : Nat} {r : HostReg} {v w : Word} {rest : List Input}

/-! The register map. -/

/-- The offsets R32 lists are those the map has a register for. -/
theorem listedOffset_iff : ListedOffset c offset ↔ ∃ r, regAt c offset = some r := by
  have hmap : mappedValues c = min c.maxValues.val 48 := rfl
  have hrx : c.rxMax = 4 * c.maxValues.val := rfl
  constructor
  · rintro (h | ⟨i, hi, hi', rfl⟩ | ⟨i, hi, rfl⟩ | ⟨i, hi, rfl⟩ | ⟨i, hi, rfl⟩)
    · simp only [List.mem_cons, List.not_mem_nil, or_false] at h
      obtain rfl | rfl | rfl | rfl | rfl | rfl := h
      exacts [⟨_, regAt_cmd⟩, ⟨_, regAt_plen⟩, ⟨_, regAt_exp⟩, ⟨_, regAt_stat⟩, ⟨_, regAt_rlen⟩, ⟨_, regAt_flen⟩]
    · exact ⟨_, regAt_val (by omega)⟩
    · exact ⟨_, regAt_pay hi⟩
    · exact ⟨_, regAt_rbuf (by omega)⟩
    · exact ⟨_, regAt_frm hi⟩
  · rintro ⟨r, hr⟩
    have h := regAt_some hr
    cases r with
    | cmd => exact .inl (by simp [h])
    | plen => exact .inl (by simp [h])
    | exp => exact .inl (by simp [h])
    | stat => exact .inl (by simp [h])
    | rlen => exact .inl (by simp [h])
    | flen => exact .inl (by simp [h])
    | val i => exact .inr (.inl ⟨i, by omega, by omega, h.2⟩)
    | pay i => exact .inr (.inr (.inl ⟨i, h⟩))
    | rbuf i => exact .inr (.inr (.inr (.inl ⟨i, h⟩)))
    | frm i => exact .inr (.inr (.inr (.inr ⟨i, h⟩)))

theorem regAt_none_iff : regAt c offset = none ↔ ¬ ListedOffset c offset := by
  rw [listedOffset_iff, Option.eq_none_iff_forall_ne_some, not_exists]

/-! Accesses. -/

theorem hostWrite_unlisted (h : ¬ ListedOffset s.cfg offset) :
    hostWrite offset v s = .refused (.noSuchRegister offset) := by
  rw [hostWrite, regAt_none_iff.mpr h]

theorem hostWrite_busy (h : ListedOffset s.cfg offset) (hb : s.busy = true) : hostWrite offset v s = .next s := by
  obtain ⟨r, hr⟩ := listedOffset_iff.mp h
  rw [hostWrite, hr]; exact if_pos hb

theorem hostWrite_idle (hr : regAt s.cfg offset = some r) (hb : s.busy = false) :
    hostWrite offset v s = storeReg offset r v s := by
  rw [hostWrite, hr]; exact if_neg (by simp [hb])

/-- The registers the map gives no write access refuse one by name (log 9). -/
theorem hostWrite_readOnly (h : ReadOnlyOffset offset) (hb : s.busy = false) :
    hostWrite offset v s = .refused (.readOnlyRegister offset) := by
  obtain rfl | rfl | ⟨i, hi, rfl⟩ := h
  · exact hostWrite_idle regAt_stat hb
  · exact hostWrite_idle regAt_flen hb
  · exact hostWrite_idle (regAt_frm hi) hb

theorem hostRead_unlisted (h : ¬ ListedOffset s.cfg offset) :
    hostRead offset s = .refused (.noSuchRegister offset) := by
  rw [hostRead, regAt_none_iff.mpr h]

theorem hostRead_visible (hr : regAt s.cfg offset = some r) (hv : visible r s = some w) :
    hostRead offset s = .next (s.setRdata w) := by
  simp only [hostRead, hr, hv]

/-- Where the spec leaves the value open, a free one is drawn (log 8). -/
theorem hostRead_hidden (hr : regAt s.cfg offset = some r) (hv : visible r s = none) :
    hostRead offset s = .next ((s.setRdata (Config.freeWord s.draws)).setDraws (s.draws + 1)) := by
  simp only [hostRead, hr, hv]

/-- While BUSY = 1 only STAT shows its value (R33). -/
theorem visible_busy (hb : s.busy = true) (hr : r ≠ .stat) : visible r s = none := by
  cases r with
  | stat => exact absurd rfl hr
  | cmd => exact if_pos hb
  | plen => exact if_pos hb
  | exp => exact if_pos hb
  | rlen => exact if_pos hb
  | flen => exact if_pos hb
  | val i => exact if_pos hb
  | pay i => exact if_pos hb
  | rbuf i => exact if_pos hb
  | frm i => exact if_pos hb

/-- A register nothing has written shows nothing (R42). -/
theorem shown_unwritten {k : Nat} {slot : Option (Slot k)} (h : slot.map Slot.written = some false) :
    shown slot = none := by
  obtain ⟨x, rfl, hx⟩ := Option.map_eq_some_iff.mp h
  exact if_neg (by simp [hx])

/-- A register just written shows what was written, its upper bits 0 (R32). -/
theorem shown_put {k : Nat} {file : List (Slot k)} {i : Nat} (hi : i < file.length) (x : BitVec k) :
    shown (file.set i (.put x))[i]? = some (x.setWidth 32) := by
  rw [List.getElem?_set_self hi]; rfl

/-! A write of a register followed by a read of it. -/

theorem runFrom_two {u : State} (h1 : step s = .next t) (h2 : step t = .next u) : runFrom 2 s = .next u := by
  simp only [runFrom, h1, h2]

/-- The host reads back what its write has left in the register (R32). -/
theorem runFrom_readBack (hb : s.busy = false) (hi : s.inputs = [.write offset v, .read offset])
    (hr : regAt s.cfg offset = some r) (hs : storeReg offset r v (s.setInputs [.read offset]) = .next t)
    (hcfg : t.cfg = s.cfg) (hti : t.inputs = [.read offset]) (hv : visible r (t.setInputs []) = some w) :
    runFrom 2 s = .next ((t.setInputs []).setRdata w) := by
  refine runFrom_two (t := t) ?_ ?_
  · rw [step_input hi]
    exact (hostWrite_idle (s := s.setInputs [.read offset]) hr hb).trans hs
  · rw [step_input hti]
    exact hostRead_visible (hcfg ▸ hr) hv

end Sys2Proof.Machine

namespace Sys2Proof.Claims

open Sys2Proof.Machine

/-- Settles O55: the map's own tests, in their order. -/
theorem unlistedAccessesAreRefused : Obligations.UnlistedAccessesAreRefused := by
  refine fun s offset v rest => ⟨fun hl => ⟨fun hi => ?_, fun hi => ?_⟩, fun hro hb hi => ?_⟩
  · exact (step_input hi).trans (hostWrite_unlisted hl)
  · exact (step_input hi).trans (hostRead_unlisted hl)
  · exact (step_input hi).trans (hostWrite_readOnly hro hb)

/-- Settles O20: words and writes are ignored, STAT shows the flags, other reads a free value. -/
theorem hostAccessWhileBusy : Obligations.HostAccessWhileBusy := by
  refine fun s hb => ⟨fun w => exec_command_busy (port_decodeWord w) hb, fun offset v rest hi hl => ?_,
    fun rest hi => ⟨_, step_readStat hi, ?_⟩, fun offset rest hi hl hne => ?_⟩
  · exact (step_input hi).trans (hostWrite_busy hl hb)
  · rw [State.stat_toNat, hb]; rfl
  · obtain ⟨r, hr⟩ := listedOffset_iff.mp hl
    have hstat : r ≠ .stat := fun h => hne (regAt_some (h ▸ hr))
    exact ⟨_, (step_input hi).trans (hostRead_hidden (s := s.setInputs rest) hr (visible_busy hb hstat))⟩

/-- Settles O52: the write lands in its register, which the read then shows. -/
theorem hostReadsBackWhatItWrote : Obligations.HostReadsBackWhatItWrote := by
  intro s v offset hw hb hi
  obtain ⟨hpay, hval, hrbuf, -⟩ := (State.wf_iff s).mp hw
  have hbyte : ((v.setWidth 8).setWidth 32).toNat = v.toNat % 256 := by
    simp only [BitVec.toNat_setWidth]; omega
  have hbyte' : (v.setWidth 8).toNat = v.toNat % 256 := by simp only [BitVec.toNat_setWidth]
  have hother {k : Nat} (x : Slot k) (file : List (Slot k)) (i j : Nat) (hj : j ≠ i) :
      (file.set i x)[j]? = file[j]? := List.getElem?_set_ne (Ne.symm hj)
  refine ⟨fun i hm hi48 ho => ?_, fun i hi255 ho => ?_, fun i hm ho => ?_, fun ho => ?_, fun ho => ?_, fun ho => ?_⟩
  · have hr : regAt s.cfg offset = some (.val i) := ho ▸ regAt_val (Nat.lt_min.mpr ⟨hm, hi48⟩)
    refine ⟨_, runFrom_readBack hb hi hr rfl rfl rfl ((if_neg (by simp [hb])).trans
      (shown_put (by rw [← hval] at hm; exact hm) v)), BitVec.setWidth_eq v, ?_, hother _ _ i, rfl⟩
    exact List.getElem?_set_self (by rw [← hval] at hm; exact hm)
  · have hr : regAt s.cfg offset = some (.pay i) := ho ▸ regAt_pay hi255
    exact ⟨_, runFrom_readBack hb hi hr rfl rfl rfl ((if_neg (by simp [hb])).trans
      (shown_put (by rw [← hpay] at hi255; exact hi255) _)), hbyte, hother _ _ i, rfl⟩
  · have hr : regAt s.cfg offset = some (.rbuf i) := ho ▸ regAt_rbuf hm
    exact ⟨_, runFrom_readBack hb hi hr rfl rfl rfl ((if_neg (by simp [hb])).trans
      (shown_put (by rw [← hrbuf] at hm; exact hm) _)), hbyte, hother _ _ i, rfl⟩
  · have hr : regAt s.cfg offset = some .plen := ho ▸ regAt_plen
    exact ⟨_, runFrom_readBack hb hi hr rfl rfl rfl (if_neg (by simp [hb])), hbyte, hbyte', rfl⟩
  · have hr : regAt s.cfg offset = some .exp := ho ▸ regAt_exp
    exact ⟨_, runFrom_readBack hb hi hr rfl rfl rfl (if_neg (by simp [hb])), hbyte, hbyte', rfl⟩
  · have hr : regAt s.cfg offset = some .rlen := ho ▸ regAt_rlen
    exact ⟨_, runFrom_readBack hb hi hr rfl rfl rfl (if_neg (by simp [hb])), hbyte, hbyte', rfl⟩

/-- Settles O53: below FLEN the frame's byte is visible, and so are FLEN and CMD. -/
theorem hostReadsTheFrame : Obligations.HostReadsTheFrame := by
  intro s offset rest hw hb hi
  obtain ⟨-, -, -, -, hflen, -⟩ := (State.wf_iff s).mp hw
  have hbusy : ¬ (s.setInputs rest).busy = true := by simp [hb]
  refine ⟨fun i b hil hbyte ho => ?_, fun ho => ?_, fun ho => ?_⟩
  · have hr : regAt s.cfg offset = some (.frm i) := ho ▸ regAt_frm (Nat.lt_of_lt_of_le hil hflen)
    have hshown : ((frameOperand s)[i]?).map (·.setWidth 32) = some (b.setWidth 32) := by
      rw [frameOperand, List.getElem?_take_of_lt hil, hbyte]; rfl
    exact (step_input hi).trans (hostRead_visible hr ((if_neg hbusy).trans hshown))
  · have hr : regAt s.cfg offset = some .flen := ho ▸ regAt_flen
    exact (step_input hi).trans (hostRead_visible hr (if_neg hbusy))
  · have hr : regAt s.cfg offset = some .cmd := ho ▸ regAt_cmd
    exact (step_input hi).trans (hostRead_visible hr (if_neg hbusy))

/-- Settles O54: none of these registers is visible, so a free value is drawn. -/
theorem unspecifiedReadsStillComplete : Obligations.UnspecifiedReadsStillComplete := by
  intro s offset rest hw hb hi hreg
  have hbusy : ¬ (s.setInputs rest).busy = true := by simp [hb]
  obtain ⟨r, hr, hv⟩ : ∃ r, regAt s.cfg offset = some r ∧ visible r (s.setInputs rest) = none := by
    obtain ⟨i, hm, hi48, rfl, hwr⟩ | ⟨i, hi255, rfl, hwr⟩ | ⟨i, hm, rfl, hwr⟩ | ⟨i, hi259, rfl, hge⟩ := hreg
    · exact ⟨_, regAt_val (Nat.lt_min.mpr ⟨hm, hi48⟩), (if_neg hbusy).trans (shown_unwritten hwr)⟩
    · exact ⟨_, regAt_pay hi255, (if_neg hbusy).trans (shown_unwritten hwr)⟩
    · exact ⟨_, regAt_rbuf hm, (if_neg hbusy).trans (shown_unwritten hwr)⟩
    · have hnone : ((frameOperand s)[i]?).map (·.setWidth 32) = none := by
        rw [frameOperand, List.getElem?_take_eq_none hge]; rfl
      exact ⟨_, regAt_frm hi259, (if_neg hbusy).trans hnone⟩
  exact ⟨_, (step_input hi).trans (hostRead_hidden hr hv)⟩

/-- Settles O48: the reset input takes the registers from the start of a run and the rest from the state. -/
theorem resetAbandonsTheOperation : Obligations.ResetAbandonsTheOperation := by
  intro s rest hi
  have hblank {w n : Nat} : ∀ x ∈ List.replicate n (Slot.blank (w := w)), x.written = false :=
    fun x hx => by rw [List.eq_of_mem_replicate hx]; rfl
  obtain ⟨cmd, plen, exp, rlen, flen, ok, busy, status, phase⟩ := State.atReset_resetBlock (s.setInputs rest)
  exact ⟨_, step_input hi, cmd, plen, exp, rlen, flen, ok, busy, status, phase, hblank, hblank, hblank,
    rfl, rfl, rfl, rfl, rfl, rfl, rfl, rfl, rfl⟩

/-- Settles O49: an arrival writes RXQ alone. -/
theorem arrivingBytesRaiseNothing : Obligations.ArrivingBytesRaiseNothing := fun _ _ _ hi => step_input hi

/-- Settles O50: connect and disconnect look at BUSY first. -/
theorem linkMovesOnlyWhileIdle : Obligations.LinkMovesOnlyWhileIdle := by
  refine fun s l rest => ⟨fun hi hb => ?_, fun hi hb => ?_, fun hi hb => ?_, fun hi hb => ?_⟩
  · exact (step_input hi).trans (if_neg (by simp [hb]))
  · exact (step_input hi).trans (if_neg (by simp [hb]))
  · exact (step_input hi).trans (if_pos hb)
  · exact (step_input hi).trans (if_pos hb)

/-- With no move listed the step is the block's turn (log 5). -/
theorem step_block {s : State} (hi : s.inputs = []) : step s = advance s := by
  rw [step, turn, hi]

/-- Settles O30: at each port the step runs what the bytes there decode to. -/
theorem stepRunsTheDecodedInstruction : Obligations.StepRunsTheDecodedInstruction := by
  refine ⟨fun s w i rest hi hb hd => ?_, fun s i hi hp hd => ?_, fun s t r hi hp hr => ?_,
    fun s rest hi => step_input hi, fun s hi => step_block hi⟩
  · rw [← le32_eq_littleEndian, decode_le32, Decoded.ok.injEq] at hd
    rw [step_input hi, ← hd]
    exact hostWrite_idle regAt_cmd hb
  · rw [step_tx hi hp, sendStep, frameOperand, hd]
  · rw [step_rx hi hp, readStep_eq, replySize_eq, hr]; rfl

end Sys2Proof.Claims
end

section
/-! PROOFS. Everything a step can do, said once: the block's turn (41_dispatcher R121), a host access, the other moves
(log 5). The invariant and the safety statements are read off it. -/

namespace Sys2Proof.Machine

open Claims

variable {s m t : State}

/-! The block's turn. -/

/-- What the primitive of the block's turn may have moved (R51 to R55): answers, the wire at TX, RXQ at RX, CONN. -/
inductive Moved (s : State) : State → Prop
  | mk (a : List Draw) (n j k : Nat) (c : Bool) : k ≤ awaited s → (k ≠ 0 → s.phase = .rx) →
      Moved s { s with
        answers := a
        draws := n
        txs := s.txs ++ (if s.phase = .tx then (frameOperand s).take j else [])
        rxq := s.rxq.drop k
        conn := c }

/-- The arrows of R121 the block can take from a state. -/
inductive BlockTurn (s : State) : State → Prop
  | idle : s.phase = .idle → BlockTurn s s
  | sent {m : State} : s.phase = .tx → Moved s m → BlockTurn s (m.setPhase .flush)
  | flushed {m : State} : s.phase = .flush → Moved s m → BlockTurn s (m.setPhase .rx)
  | failed {m : State} {code : Status} : s.phase ≠ .idle → code ≠ .ok → code ≠ .refused → Moved s m →
      BlockTurn s (fail code m)
  | finished {m : State} {r : List Byte} : s.phase = .rx → r.length = awaited s → Moved s m →
      BlockTurn s (finish r m)

/-- At TX the primitive moves the wire by an initial part of the frame. -/
theorem Moved.tx (hp : s.phase = .tx) (a : List Draw) (n j : Nat) (c : Bool) :
    Moved s { s with answers := a, draws := n, txs := s.txs ++ (frameOperand s).take j, conn := c } := by
  have h := Moved.mk (s := s) a n j 0 c (Nat.zero_le _) (absurd rfl)
  rwa [if_pos hp] at h

/-- Past TX it leaves the wire as it is. -/
theorem Moved.pastTx (hp : s.phase ≠ .tx) (a : List Draw) (n : Nat) (c : Bool) {k : Nat} (hk : k ≤ awaited s)
    (hrx : k ≠ 0 → s.phase = .rx) :
    Moved s { s with answers := a, draws := n, rxq := s.rxq.drop k, conn := c } := by
  have h := Moved.mk (s := s) a n 0 k c hk hrx
  rwa [if_neg hp, List.append_nil] at h

/-- The TX step sends the frame in FRM, or faults and fails (R121). -/
theorem sendStep_blockTurn (hp : s.phase = .tx) {opc ck : Byte} {p : List Byte} (hl : p.length ≤ 255)
    (hf : frameOperand s = frameHead s.cfg opc p ++ [ck]) :
    ∃ t, execFrame opc p ck s = .next t ∧ BlockTurn s t := by
  rw [execFrame_tx hp hl, ← hf]
  obtain ⟨a, n, h⟩ | ⟨a, n, j, c, h⟩ := txWrite_cases (frameOperand s) s
  · rw [h]
    have hm := Moved.tx hp a n (frameOperand s).length s.conn
    rw [List.take_length] at hm
    exact ⟨_, rfl, .sent hp hm⟩
  · rw [h]
    exact ⟨_, rfl, .failed (by simp [hp]) nofun nofun (.tx hp a n j c)⟩

theorem flushStep_blockTurn (hp : s.phase = .flush) : BlockTurn s (flushStep s) := by
  have hm (a : List Draw) (n : Nat) (c : Bool) :=
    Moved.pastTx (s := s) (by simp [hp]) a n c (Nat.zero_le _) (absurd rfl)
  rw [flushStep]
  obtain ⟨a, n, h⟩ | ⟨a, n, c, h⟩ := txFlush_cases s
  · rw [h]; exact .flushed hp (hm a n s.conn)
  · rw [h]; exact .failed (by simp [hp]) nofun nofun (hm a n c)

/-- The RX step takes at most the awaited bytes, and ends the exchange (R121). -/
theorem readStep_blockTurn (hp : s.phase = .rx) : ∃ t, readStep s = .next t ∧ BlockTurn s t := by
  have hm (a : List Draw) (n : Nat) (c : Bool) {k : Nat} (hk : k ≤ awaited s) :=
    Moved.pastTx (s := s) (by simp [hp]) a n c hk fun _ => hp
  rw [readStep_eq, replySize_eq]
  obtain ⟨a, n, k, hk, h⟩ | ⟨a, n, c, h⟩ := rxRead_cases (awaited s) s
  · rw [h]
    have hle : (s.rxq.take k).length ≤ awaited s := (List.length_take_le _ _).trans hk
    by_cases hs : (s.rxq.take k).length < awaited s
    · exact ⟨_, execReply_short hp (Nat.lt_of_lt_of_eq hs (replySize_eq s).symm),
        .failed (by simp [hp]) nofun nofun (hm a n s.conn hk)⟩
    · have heq : (s.rxq.take k).length = awaited s := by omega
      exact ⟨_, execReply_full hp (heq.trans (replySize_eq s).symm), .finished hp heq (hm a n s.conn hk)⟩
  · rw [h]
    exact ⟨_, rfl, .failed (by simp [hp]) nofun nofun (hm a n c (Nat.zero_le _))⟩

/-- A turn of the block that answers a next state has taken one of the arrows. -/
theorem blockTurn_of_advance (h : advance s = .next t) : BlockTurn s t := by
  unfold advance at h
  split at h
  · next hp => cases h; exact .idle hp
  · next hp =>
    unfold sendStep at h
    split at h
    · next i hd =>
      obtain ⟨opc, p, ck, rfl, hl, hf⟩ := decodeRequest_ok hd
      obtain ⟨u, hu, hbt⟩ := sendStep_blockTurn hp hl hf
      cases hu.symm.trans h; exact hbt
    · cases h
  · next hp => cases h; exact flushStep_blockTurn hp
  · next hp =>
    obtain ⟨u, hu, hbt⟩ := readStep_blockTurn hp
    cases hu.symm.trans h; exact hbt

/-- Where the invariant holds the block's turn never stops. -/
theorem advance_next (hw : s.wf = true) : ∃ t, advance s = .next t := by
  unfold advance
  split
  · exact ⟨_, rfl⟩
  · next hp =>
    obtain ⟨opc, p, ck, hl, hf, hd⟩ := State.wf_frame hw (State.wf_busy hw (by simp [hp]))
    obtain ⟨u, hu, -⟩ := sendStep_blockTurn hp hl hf
    exact ⟨u, by rw [sendStep, hd]; exact hu⟩
  · exact ⟨_, rfl⟩
  · next hp => obtain ⟨u, hu, -⟩ := readStep_blockTurn hp; exact ⟨u, hu⟩

/-! The host's accesses. -/

/-- What a load of a register the host writes may change (R32): an operand, the files keeping their lengths. -/
inductive Loaded (s : State) : State → Prop
  | mk (plen exp rlen : Byte) (pay rbuf : List (Slot 8)) (val : List (Slot 32)) : pay.length = s.pay.length →
      rbuf.length = s.rbuf.length → val.length = s.val.length →
      Loaded s { s with plen := plen, exp := exp, rlen := rlen, pay := pay, rbuf := rbuf, val := val }

/-- What a host read and a move of the link may change: what the host holds, and the connection (R32, R135). -/
inductive Aside (s : State) : State → Prop
  | mk (n : Nat) (w : Word) (c : Bool) (l : Option Link) :
      Aside s { s with draws := n, rdata := w, conn := c, link := l }

variable {offset : Nat} {v : Word}

/-- Everything a host write can do (R32, R33). -/
theorem hostWrite_cases (offset : Nat) (v : Word) (s : State) :
    (¬ ListedOffset s.cfg offset ∧ hostWrite offset v s = .refused (.noSuchRegister offset)) ∨
    (s.busy = true ∧ hostWrite offset v s = .next s) ∨
    (s.busy = false ∧ ReadOnlyOffset offset ∧ hostWrite offset v s = .refused (.readOnlyRegister offset)) ∨
    (s.busy = false ∧ offset = 0x000 ∧ hostWrite offset v s = exec (decodeWord v) s) ∨
    (s.busy = false ∧ offset ≠ 0x000 ∧ ∃ t, hostWrite offset v s = .next t ∧ Loaded s t) := by
  by_cases hl : ListedOffset s.cfg offset
  case neg => exact .inl ⟨hl, hostWrite_unlisted hl⟩
  cases hb : s.busy
  case true => exact .inr (.inl ⟨rfl, hostWrite_busy hl hb⟩)
  obtain ⟨r, hr⟩ := listedOffset_iff.mp hl
  have ho := regAt_some hr
  have hload {t : State} (hne : offset ≠ 0) (h : storeReg offset r v s = .next t) (ht : Loaded s t) :
      false = false ∧ offset ≠ 0x000 ∧ ∃ t, hostWrite offset v s = .next t ∧ Loaded s t :=
    ⟨rfl, hne, t, (hostWrite_idle hr hb).trans h, ht⟩
  refine .inr (.inr ?_)
  cases r with
  | cmd => exact .inr (.inl ⟨rfl, ho, hostWrite_idle hr hb⟩)
  | stat => exact .inl ⟨rfl, .inl ho, hostWrite_idle hr hb⟩
  | flen => exact .inl ⟨rfl, .inr (.inl ho), hostWrite_idle hr hb⟩
  | frm i => exact .inl ⟨rfl, .inr (.inr ⟨i, ho⟩), hostWrite_idle hr hb⟩
  | plen => exact .inr (.inr (hload (by omega) rfl (.mk _ _ _ _ _ _ rfl rfl rfl)))
  | exp => exact .inr (.inr (hload (by omega) rfl (.mk _ _ _ _ _ _ rfl rfl rfl)))
  | rlen => exact .inr (.inr (hload (by omega) rfl (.mk _ _ _ _ _ _ rfl rfl rfl)))
  | val i => exact .inr (.inr (hload (by omega) rfl (.mk _ _ _ _ _ _ rfl rfl List.length_set)))
  | pay i => exact .inr (.inr (hload (by omega) rfl (.mk _ _ _ _ _ _ List.length_set rfl rfl)))
  | rbuf i => exact .inr (.inr (hload (by omega) rfl (.mk _ _ _ _ _ _ rfl List.length_set rfl)))

/-- Everything a host read can do (R32, R33). -/
theorem hostRead_cases (offset : Nat) (s : State) :
    (¬ ListedOffset s.cfg offset ∧ hostRead offset s = .refused (.noSuchRegister offset)) ∨
    (∃ t, hostRead offset s = .next t ∧ Aside s t) := by
  by_cases hl : ListedOffset s.cfg offset
  case neg => exact .inl ⟨hl, hostRead_unlisted hl⟩
  obtain ⟨r, hr⟩ := listedOffset_iff.mp hl
  cases hv : visible r s with
  | some w => exact .inr ⟨_, hostRead_visible hr hv, .mk _ _ _ _⟩
  | none => exact .inr ⟨_, hostRead_hidden hr hv, .mk _ _ _ _⟩

/-! The step. -/

/-- Everything a step that answers a next state can do (log 5). -/
inductive Steps (s : State) : State → Prop
  | block {t : State} : s.inputs = [] ∨ s.inputs.head? = some .run → BlockTurn (s.setInputs s.inputs.tail) t →
      Steps s t
  | refused {w : Word} {rest : List Input} : s.inputs = .write 0x000 w :: rest → s.busy = false →
      Steps s (refuse ((s.setInputs rest).setCmd w))
  | executed {w : Word} {rest : List Input} {t : State} : s.inputs = .write 0x000 w :: rest → s.busy = false →
      ¬ RefusedWord s w → Executes (s.setInputs rest) w t → Steps s t
  | ignored {offset : Nat} {v : Word} {rest : List Input} : s.inputs = .write offset v :: rest → s.busy = true →
      Steps s (s.setInputs rest)
  | loaded {offset : Nat} {v : Word} {rest : List Input} {t : State} : s.inputs = .write offset v :: rest →
      offset ≠ 0x000 → s.busy = false → Loaded (s.setInputs rest) t → Steps s t
  | aside {i : Input} {rest : List Input} {t : State} : s.inputs = i :: rest → i.issues = false →
      Aside (s.setInputs rest) t → Steps s t
  | reset {rest : List Input} : s.inputs = .reset :: rest → Steps s (resetBlock (s.setInputs rest))
  | arrived {bytes : List Byte} {rest : List Input} : s.inputs = .arrive bytes :: rest →
      Steps s ((s.setInputs rest).setRxq (s.rxq ++ bytes))

/-- A landing write to CMD is refused or executed, or ignored while BUSY = 1. -/
theorem steps_of_write {rest : List Input} (hi : s.inputs = .write offset v :: rest)
    (h : hostWrite offset v (s.setInputs rest) = .next t) : Steps s t := by
  obtain ⟨-, hx⟩ | ⟨hb, hx⟩ | ⟨-, -, hx⟩ | ⟨hb, rfl, hx⟩ | ⟨hb, hne, u, hx, hu⟩ :=
    hostWrite_cases offset v (s.setInputs rest) <;> rw [hx] at h
  · cases h
  · cases h; exact .ignored hi hb
  · cases h
  · by_cases hr : RefusedWord s v
    · cases ((refuses_decodeWord (s := s.setInputs rest) hr).exec_eq hb).symm.trans h
      exact .refused hi hb
    · obtain ⟨u, hu, hex⟩ := exec_decodeWord_executes (s := s.setInputs rest) hb hr
      cases hu.symm.trans h
      exact .executed hi hb hr hex
  · cases h; exact .loaded hi hne hb hu

theorem steps_of_next (h : step s = .next t) : Steps s t := by
  cases hi : s.inputs with
  | nil =>
    rw [step_block hi] at h
    have htail : s.inputs.tail = s.inputs := by rw [hi]; rfl
    have hs : s.setInputs s.inputs.tail = s := by rw [htail]; rfl
    exact .block (.inl hi) (hs.symm ▸ blockTurn_of_advance h)
  | cons i rest =>
    rw [step_input hi] at h
    cases i with
    | run => exact .block (.inr (by rw [hi]; rfl)) (by rw [hi]; exact blockTurn_of_advance h)
    | write offset v => exact steps_of_write hi h
    | read offset =>
      obtain ⟨-, hx⟩ | ⟨u, hx, hu⟩ := hostRead_cases offset (s.setInputs rest)
      · cases hx.symm.trans h
      · cases hx.symm.trans h; exact .aside hi rfl hu
    | connect l =>
      cases hb : s.busy with
      | true => cases (if_pos hb).symm.trans h
      | false => cases (if_neg (by simp [hb])).symm.trans h; exact .aside hi rfl (.mk _ _ _ _)
    | disconnect =>
      cases hb : s.busy with
      | true => cases (if_pos hb).symm.trans h
      | false => cases (if_neg (by simp [hb])).symm.trans h; exact .aside hi rfl (.mk _ _ _ _)
    | reset => cases h; exact .reset hi
    | arrive bytes => cases h; exact .arrived hi

end Sys2Proof.Machine
end

section
/-! PROOFS. The invariant through every step (10_state R24 to R35), what a step never writes (R37 to R39), the arrows
of the sequencer (R35, 41_dispatcher R121), the only stops, and obligations O31 to O38. -/

namespace Sys2Proof.Machine

open Claims

variable {s m t : State} {w : Word}

/-! What keeps the invariant. -/

/-- FRM and FLEN hold a right frame once one is built (R86, R102). -/
theorem framed_frameOk (opc : Byte) {p : List Byte} (hp : p.length ≤ 255) (hfrm : s.frm.length = 259) :
    (framed opc p s).frameOk = true := by
  have hheld : frameOperand (framed opc p s) = frameHead s.cfg opc p ++ [cksum8 (frameHead s.cfg opc p)] :=
    (framed_holdsFrame opc hp hfrm).frame_eq.trans (frameHead_cksum8_eq_wireFrame s.cfg opc p).symm
  have hd : decode (framed opc p s).cfg .request (frameOperand (framed opc p s)) =
      .ok (.frame opc p (cksum8 (frameHead s.cfg opc p))) := by
    rw [hheld]; exact decodeRequest_of_fields hp
  rw [State.frameOk, hd]
  exact Bool.or_eq_true_iff.mpr (.inr (Bool.and_eq_true_iff.mpr ⟨decide_eq_true hp, beq_self_eq_true _⟩))

/-- The state of an operation that ends in the step that issues it, its frame built (R103, R105). -/
theorem State.wf_succeed_framed (hw : s.wf = true) (hb : s.busy = false) (opc : Byte) {p : List Byte}
    (hp : p.length ≤ 255) (w : Word) : (succeed (framed opc p (s.setCmd w))).wf = true := by
  obtain ⟨hpay, hval, hrbuf, hfrm, -, -, -, -, -⟩ := (State.wf_iff s).mp hw
  have hidle := State.wf_idle hw hb
  refine (State.wf_iff _).mpr ⟨hpay, hval, hrbuf, (overwrite_length _ _).trans hfrm, ?_, rfl, ?_,
    framed_frameOk (s := s.setCmd w) opc hp hfrm, fun h => ?_⟩
  · exact (framed_flen opc hp (s.setCmd w)).trans_le (by omega)
  · show s.busy = decide (s.phase ≠ .idle)
    rw [hb, hidle]; rfl
  · exact absurd (hb.symm.trans h) nofun

/-- The state of a CALL or XFER just issued: its frame built, its word in CMD, the sequencer at TX (R121). -/
theorem State.wf_issued (hw : s.wf = true) (opc : Byte) {p : List Byte} (hp : p.length ≤ 255)
    (hr : ¬ RefusedWord s w) (hop : w.toNat % 8 = 4 ∨ w.toNat % 8 = 5) :
    ((framed opc p (s.setCmd w)).setPhase .tx).wf = true := by
  obtain ⟨hpay, hval, hrbuf, hfrm, -, hok, -, -, -⟩ := (State.wf_iff s).mp hw
  have hflen := framed_flen opc hp (s.setCmd w)
  refine (State.wf_iff _).mpr ⟨hpay, hval, hrbuf, (overwrite_length _ _).trans hfrm, hflen.trans_le (by omega), hok,
    rfl, framed_frameOk (s := s.setCmd w) opc hp hfrm, fun _ => ⟨fun h => ?_, ?_⟩⟩
  · have h0 : (framed opc p (s.setCmd w)).flen.toNat = 0 := congrArg BitVec.toNat h
    omega
  · exact (inFlightOk_iff _).mpr ⟨hr, hop⟩

theorem State.wf_fail (hw : s.wf = true) (code : Status) : (fail code s).wf = true := by
  rw [fail_eq]
  refine State.wf_of_idle hw rfl rfl ?_ (overwrite_length _ _) rfl rfl rfl rfl rfl
  simp only [apply_ite List.length, overwrite_length, ite_self]

theorem State.wf_finish (hw : s.wf = true) (r : List Byte) : (finish r s).wf = true := by
  rw [finish_eq]
  refine State.wf_of_idle hw rfl rfl ?_ (overwrite_length _ _) rfl rfl rfl rfl rfl
  simp only [apply_ite List.length, overwrite_length, ite_self]

/-- The start of a run, and so a reset, meets the invariant (R41). -/
theorem State.wf_initial (c : Config) : (State.initial c).wf = true :=
  (State.wf_iff _).mpr ⟨List.length_replicate, List.length_replicate, List.length_replicate, List.length_replicate,
    Nat.zero_le _, rfl, rfl, rfl, nofun⟩

/-- The primitives touch nothing the invariant speaks of. -/
theorem Moved.wf (h : Moved s m) (hw : s.wf = true) : m.wf = true := by cases h; exact hw

/-- In flight, an arrow of the sequencer keeps the invariant. -/
theorem State.wf_setPhase (hw : s.wf = true) (hb : s.busy = true) (p : Phase) :
    (s.setPhase p).wf = true := by
  obtain ⟨hpay, hval, hrbuf, hfrm, hflen, hok, -, hfo, hfl⟩ := (State.wf_iff s).mp hw
  exact (State.wf_iff _).mpr ⟨hpay, hval, hrbuf, hfrm, hflen, hok, rfl, hfo, fun _ => hfl hb⟩

theorem BlockTurn.wf (h : BlockTurn s t) (hw : s.wf = true) : t.wf = true := by
  have hbusy {m : State} (hm : Moved s m) (hp : s.phase ≠ .idle) : m.busy = true := by
    cases hm; exact State.wf_busy hw hp
  cases h with
  | idle => exact hw
  | sent hp hm => exact State.wf_setPhase (hm.wf hw) (hbusy hm (by simp [hp])) _
  | flushed hp hm => exact State.wf_setPhase (hm.wf hw) (hbusy hm (by simp [hp])) _
  | failed _ _ _ hm => exact State.wf_fail (hm.wf hw) _
  | finished _ _ hm => exact State.wf_finish (hm.wf hw) _

/-- A turn of the block appends to TXS at TX only. -/
theorem BlockTurn.txs_eq (h : BlockTurn s t) :
    ∃ j, t.txs = s.txs ++ (if s.phase = .tx then (frameOperand s).take j else []) := by
  cases h with
  | idle => exact ⟨0, by simp⟩
  | sent _ hm => cases hm; exact ⟨_, rfl⟩
  | flushed _ hm => cases hm; exact ⟨_, rfl⟩
  | failed _ _ _ hm => cases hm; rw [fail_eq]; exact ⟨_, rfl⟩
  | finished _ _ hm => cases hm; rw [finish_eq]; exact ⟨_, rfl⟩

/-- A turn of the block takes at most the awaited bytes from the front of RXQ, at RX only. -/
theorem BlockTurn.rxq_eq (h : BlockTurn s t) :
    ∃ k, k ≤ awaited s ∧ (k ≠ 0 → s.phase = .rx) ∧ t.rxq = s.rxq.drop k := by
  cases h with
  | idle => exact ⟨0, Nat.zero_le _, absurd rfl, rfl⟩
  | sent _ hm => cases hm with | mk _ _ _ k _ hk hrx => exact ⟨k, hk, hrx, rfl⟩
  | flushed _ hm => cases hm with | mk _ _ _ k _ hk hrx => exact ⟨k, hk, hrx, rfl⟩
  | failed _ _ _ hm => cases hm with | mk _ _ _ k _ hk hrx => rw [fail_eq]; exact ⟨k, hk, hrx, rfl⟩
  | finished _ _ hm => cases hm with | mk _ _ _ k _ hk hrx => rw [finish_eq]; exact ⟨k, hk, hrx, rfl⟩

/-- An executed word leaves a state that meets the invariant. -/
theorem Executes.wf (h : Executes s w t) (hw : s.wf = true) (hb : s.busy = false) (hr : ¬ RefusedWord s w) :
    t.wf = true := by
  have hidle := State.wf_idle hw hb
  cases h with
  | encode => exact State.wf_succeed_framed hw hb _ (payloadOperand_length_le s) w
  | encf => exact State.wf_succeed_framed hw hb _ (packedOperand_length_le _ s) w
  | decfMatch => exact State.wf_of_idle hw rfl rfl (overwrite_length _ _) rfl rfl rfl rfl hb hidle
  | decfMismatch => exact State.wf_of_idle hw rfl rfl (overwrite_length _ _) rfl rfl rfl rfl hb hidle
  | call hop => exact State.wf_issued hw _ (payloadOperand_length_le s) hr (.inl hop)
  | xfer hop => exact State.wf_issued hw _ (packedOperand_length_le _ s) hr (.inr hop)

/-- Every step keeps the invariant. -/
theorem step_wf (hw : s.wf = true) (h : step s = .next t) : t.wf = true := by
  have hok := State.wf_ok hw
  have hidle (hb : s.busy = false) := State.wf_idle hw hb
  cases steps_of_next h with
  | block _ hbt => exact hbt.wf hw
  | refused _ hb => exact State.wf_of_idle hw rfl rfl rfl rfl rfl rfl rfl hb (hidle hb)
  | executed _ hb hr hex => exact hex.wf hw hb hr
  | ignored => exact hw
  | loaded _ _ hb hl =>
    obtain ⟨_, _, _, _, _, _, hpay, hrbuf, hval⟩ := hl
    exact State.wf_of_idle hw rfl hpay hval hrbuf rfl rfl hok hb (hidle hb)
  | aside _ _ ha => cases ha; exact hw
  | reset => exact State.wf_initial s.cfg
  | arrived => exact hw

end Sys2Proof.Machine

namespace Sys2Proof.Claims

open Sys2Proof.Machine

/-- Settles O33: each of the things a step can do keeps the invariant. -/
theorem everyStepKeepsTheInvariant : Obligations.EveryStepKeepsTheInvariant := fun _ _ => step_wf

/-- Settles O34: the reset values, by their lengths. -/
theorem startOfARunMeetsTheInvariant : Obligations.StartOfARunMeetsTheInvariant :=
  ⟨State.wf_initial, State.wf_initial .standard⟩

/-- Settles O36: no update of a step names the parameters. -/
theorem parametersNeverChange : Obligations.ParametersNeverChange := by
  intro s t h
  cases steps_of_next h with
  | block _ hbt =>
    cases hbt with
    | idle => rfl
    | sent _ hm => cases hm; rfl
    | flushed _ hm => cases hm; rfl
    | failed _ _ _ hm => cases hm; rw [fail_eq]; rfl
    | finished _ _ hm => cases hm; rw [finish_eq]; rfl
  | refused => rfl
  | executed _ _ _ hex => cases hex <;> rfl
  | ignored => rfl
  | loaded _ _ _ hl => cases hl; rfl
  | aside _ _ ha => cases ha; rfl
  | reset => rfl
  | arrived => rfl

/-- Settles O37: only the block's turn touches TXS, and it appends at TX. -/
theorem transmitHistoryOnlyGrows : Obligations.TransmitHistoryOnlyGrows := by
  intro s t h
  have hsame {t : State} (ht : t.txs = s.txs) : ∃ sent, t.txs = s.txs ++ sent ∧ (sent ≠ [] → s.phase = .tx) :=
    ⟨[], by rw [ht, List.append_nil], absurd rfl⟩
  cases steps_of_next h with
  | block _ hbt =>
    obtain ⟨j, hj⟩ := hbt.txs_eq
    refine ⟨_, hj, fun hne => ?_⟩
    by_contra hp
    exact hne (if_neg hp)
  | refused => exact hsame rfl
  | executed _ _ _ hex => exact hsame (by cases hex <;> rfl)
  | ignored => exact hsame rfl
  | loaded _ _ _ hl => exact hsame (by cases hl; rfl)
  | aside _ _ ha => exact hsame (by cases ha; rfl)
  | reset => exact hsame rfl
  | arrived => exact hsame rfl

/-- Settles O38: the block's turn drops bytes from the front, an arrival appends its own. -/
theorem receiveStreamIsConsumedFromTheFront : Obligations.ReceiveStreamIsConsumedFromTheFront := by
  intro s t _ h
  have hsame {t : State} (ht : t.rxq = s.rxq) : ∃ k arrived, t.rxq = s.rxq.drop k ++ arrived ∧
      (k ≠ 0 → s.phase = .rx ∧ k ≤ awaited s) ∧ (arrived ≠ [] → ∃ rest, s.inputs = .arrive arrived :: rest) :=
    ⟨0, [], by rw [ht, List.drop_zero, List.append_nil], absurd rfl, absurd rfl⟩
  cases steps_of_next h with
  | block _ hbt =>
    obtain ⟨k, hk, hrx, hq⟩ := hbt.rxq_eq
    exact ⟨k, [], by rw [hq, List.append_nil]; rfl, fun hne => ⟨hrx hne, hk⟩, absurd rfl⟩
  | refused => exact hsame rfl
  | executed _ _ _ hex => exact hsame (by cases hex <;> rfl)
  | ignored => exact hsame rfl
  | loaded _ _ _ hl => exact hsame (by cases hl; rfl)
  | aside _ _ ha => exact hsame (by cases ha; rfl)
  | reset => exact hsame rfl
  | arrived hi => exact ⟨0, _, rfl, absurd rfl, fun _ => ⟨_, hi⟩⟩

/-- Settles O31: of all a step can do, an issue and the block's turn change PHASE, along R121. -/
theorem sequencerTakesOnlyTheListedArrows : Obligations.SequencerTakesOnlyTheListedArrows := by
  intro s t hw h hne
  cases steps_of_next h with
  | block _ hbt =>
    cases hbt with
    | idle => exact absurd rfl hne
    | sent hp _ => exact .inr (.inl ⟨hp, rfl⟩)
    | flushed hp _ => exact .inr (.inr (.inl ⟨hp, rfl⟩))
    | failed => exact .inr (.inr (.inr (by rw [fail_eq])))
    | finished => exact .inr (.inr (.inr (by rw [finish_eq])))
  | refused => exact absurd rfl hne
  | executed hi hb hr hex =>
    have hidle := State.wf_idle hw hb
    cases hex with
    | encode => exact absurd rfl hne
    | encf => exact absurd rfl hne
    | decfMatch => exact absurd rfl hne
    | decfMismatch => exact absurd rfl hne
    | call hop => exact .inl ⟨hidle, rfl, _, _, hi, .inl hop, hr⟩
    | xfer hop => exact .inl ⟨hidle, rfl, _, _, hi, .inr hop, hr⟩
  | ignored => exact absurd rfl hne
  | loaded _ _ _ hl => cases hl; exact absurd rfl hne
  | aside _ _ ha => cases ha; exact absurd rfl hne
  | reset => exact .inr (.inr (.inr rfl))
  | arrived => exact absurd rfl hne

/-- Settles O32: every other meaning, started at IDLE, leaves BUSY as it was. -/
theorem onlyCallAndXferRaiseBusy : Obligations.OnlyCallAndXferRaiseBusy := by
  intro i s t hw h hb ht
  have hidle := State.wf_idle hw hb
  have hkept {u : State} (hu : exec i s = .next u) (hub : u.busy = s.busy) : ∃ f, i = .call f ∨ i = .xfer f := by
    cases hu.symm.trans h
    rw [hub, hb] at ht; cases ht
  cases i with
  | call f => exact ⟨f, .inl rfl⟩
  | xfer f => exact ⟨f, .inr rfl⟩
  | encode f => exact hkept (execEncode_idle hb) rfl
  | encf f =>
    by_cases hn : s.cfg.maxValues.val < f.nv.toNat
    · exact hkept (execEncf_refused hb hn) rfl
    · exact hkept (execEncf_idle hb (Nat.le_of_not_lt hn)) rfl
  | decf f =>
    by_cases hn : s.cfg.maxValues.val < f.ar.toNat
    · exact hkept (execDecf_refused hb hn) rfl
    by_cases hl : s.rlen.toNat = 4 * f.ar.toNat
    · exact hkept (execDecf_match hb (Nat.le_of_not_lt hn) hl) rfl
    · exact hkept (execDecf_mismatch hb (Nat.le_of_not_lt hn) hl) rfl
  | reservedOp0 f => exact hkept (execReservedOp0_idle hb) rfl
  | reservedOp6 f => exact hkept (execReservedOp6_idle hb) rfl
  | reservedOp7 f => exact hkept (execReservedOp7_idle hb) rfl
  | reservedRsv rsv op f => exact hkept (execReservedRsv_idle hb) rfl
  | frame opc p ck => exact hkept (execFrame_elsewhere (by simp [hidle])) rfl
  | reply bytes => exact hkept (execReply_elsewhere (by simp [hidle])) rfl

/-- Any word that lands at IDLE answers a next state, refused or not. -/
theorem exec_decodeWord_next {s : State} (hb : s.busy = false) (w : Word) : ∃ t, exec (decodeWord w) s = .next t := by
  by_cases hr : RefusedWord s w
  · exact ⟨_, (refuses_decodeWord hr).exec_eq hb⟩
  · obtain ⟨t, ht, -⟩ := exec_decodeWord_executes hb hr
    exact ⟨t, ht⟩

/-- Settles O35: the block's turn never stops, and each move of the host only by its named breach. -/
theorem stepsStopOnlyOnAHostBreach : Obligations.StepsStopOnlyOnAHostBreach := by
  intro s hw
  cases hi : s.inputs with
  | nil => exact .inl (by rw [step_block hi]; exact advance_next hw)
  | cons i rest =>
    rw [step_input hi]
    cases i with
    | run => exact .inl (advance_next (s := s.setInputs rest) hw)
    | write offset v =>
      obtain ⟨hl, hx⟩ | ⟨-, hx⟩ | ⟨hb, hro, hx⟩ | ⟨hb, -, hx⟩ | ⟨-, -, t, hx, -⟩ :=
        hostWrite_cases offset v (s.setInputs rest)
      · exact .inr (.inl ⟨offset, v, rest, rfl, hl, hx⟩)
      · exact .inl ⟨_, hx⟩
      · exact .inr (.inr (.inr (.inl ⟨offset, v, rest, rfl, hro, hb, hx⟩)))
      · obtain ⟨t, ht⟩ := exec_decodeWord_next hb v
        exact .inl ⟨t, hx.trans ht⟩
      · exact .inl ⟨t, hx⟩
    | read offset =>
      obtain ⟨hl, hx⟩ | ⟨t, hx, -⟩ := hostRead_cases offset (s.setInputs rest)
      · exact .inr (.inr (.inl ⟨offset, rest, rfl, hl, hx⟩))
      · exact .inl ⟨t, hx⟩
    | connect l =>
      cases hb : s.busy with
      | true => exact .inr (.inr (.inr (.inr (.inl ⟨l, rest, rfl, rfl, if_pos hb⟩))))
      | false => exact .inl ⟨_, if_neg (by simp [hb])⟩
    | disconnect =>
      cases hb : s.busy with
      | true => exact .inr (.inr (.inr (.inr (.inr ⟨rest, rfl, rfl, if_pos hb⟩))))
      | false => exact .inl ⟨_, if_neg (by simp [hb])⟩
    | reset => exact .inl ⟨_, rfl⟩
    | arrive bytes => exact .inl ⟨_, rfl⟩

end Sys2Proof.Claims
end

section
/-! PROOFS. Runs of an exchange (41_dispatcher R120, R121, 70_reset R185): the four steps of a CALL or XFER under every
answer of the transport. -/

namespace Sys2Proof.Machine

open Claims

variable {s m t u : State} {w : Word} {rest : List Input} {j k : Nat}

/-! Runs. -/

theorem runFrom_succ (h : step s = .next t) : runFrom (k + 1) s = runFrom k t := by
  rw [runFrom, h]

/-- A run is its first steps, then the others. -/
theorem runFrom_add (h : runFrom j s = .next m) (k : Nat) : runFrom (j + k) s = runFrom k m := by
  induction j generalizing s with
  | zero => cases h; rw [Nat.zero_add]
  | succ j ih =>
    rw [Nat.add_right_comm]
    cases hs : step s with
    | next t =>
      rw [runFrom_succ hs] at h ⊢
      exact ih h
    | fault r => rw [runFrom, hs] at h; cases h
    | refused r => rw [runFrom, hs] at h; cases h

/-- A run keeps the invariant. -/
theorem runFrom_wf (hw : s.wf = true) (h : runFrom k s = .next t) : t.wf = true := by
  induction k generalizing s with
  | zero => cases h; exact hw
  | succ k ih =>
    cases hs : step s with
    | next m => rw [runFrom_succ hs] at h; exact ih (step_wf hw hs) h
    | fault r => rw [runFrom, hs] at h; cases h
    | refused r => rw [runFrom, hs] at h; cases h

/-- The next `k` moves are the block's turns (log 5). -/
def State.blockNext (k : Nat) (s : State) : Prop := ∀ i ∈ s.inputs.take k, i = .run

theorem State.blockNext_nil (hi : s.inputs = []) : s.blockNext k := by
  intro i h; rw [hi, List.take_nil] at h; cases h

theorem State.blockNext_congr (hn : s.blockNext k) (h : t.inputs = s.inputs) : t.blockNext k := by
  rw [State.blockNext, h]; exact hn

/-- Such a step is the block's turn, with the move taken off the list. -/
theorem step_blockNext (h : s.blockNext (k + 1)) :
    step s = advance (s.setInputs (s.inputs.drop 1)) ∧ (s.setInputs (s.inputs.drop 1)).blockNext k := by
  unfold State.blockNext at *
  cases hi : s.inputs with
  | nil =>
    have hs : s.setInputs [] = s := by rw [← hi]; rfl
    exact ⟨(step_block hi).trans (congrArg advance hs.symm), by simp⟩
  | cons i tail =>
    rw [hi, List.take_succ_cons] at h
    have hrun := h i List.mem_cons_self
    exact ⟨(step_input hi).trans (by rw [hrun]; rfl), fun i hmem => h i (List.mem_cons_of_mem _ hmem)⟩

/-- An idle block only takes the moves off the list (R35). -/
theorem runFrom_idle (hp : s.phase = .idle) (hn : s.blockNext k) :
    runFrom k s = .next (s.setInputs (s.inputs.drop k)) := by
  induction k generalizing s with
  | zero => rfl
  | succ k ih =>
    obtain ⟨hstep, hn'⟩ := step_blockNext hn
    have hadv : advance (s.setInputs (s.inputs.drop 1)) = .next (s.setInputs (s.inputs.drop 1)) := by
      rw [advance, State.setInputs_phase, hp]
    rw [runFrom_succ (hstep.trans hadv), ih (s := s.setInputs (s.inputs.drop 1)) hp hn', State.setInputs_inputs,
      List.drop_drop, Nat.add_comm]
    rfl

/-! The end of an exchange within a run. -/

/-- What an exchange leaves of its state: all but the streams, the connection, the results and the flags. -/
def SameSetup (s t : State) : Prop :=
  t = { s with
    txs := t.txs, rxq := t.rxq, conn := t.conn, rbuf := t.rbuf, rlen := t.rlen, val := t.val, ok := t.ok
    status := t.status, busy := t.busy, phase := t.phase, answers := t.answers, draws := t.draws, inputs := t.inputs }

/-- What the steps of an exchange leave until it ends: also the results and the flags OK and STATUS. -/
inductive UnderWay (s : State) : State → Prop
  | mk (txs rxq : List Byte) (conn busy : Bool) (phase : Phase) (answers : List Draw) (draws : Nat)
      (inputs : List Input) :
      UnderWay s { s with
        txs := txs, rxq := rxq, conn := conn, busy := busy, phase := phase, answers := answers, draws := draws
        inputs := inputs }

theorem UnderWay.refl (s : State) : UnderWay s s :=
  .mk s.txs s.rxq s.conn s.busy s.phase s.answers s.draws s.inputs

theorem UnderWay.setInputs (h : UnderWay s m) (i : List Input) : UnderWay s (m.setInputs i) := by cases h; constructor
theorem UnderWay.setTxs (h : UnderWay s m) (x : List Byte) : UnderWay s (m.setTxs x) := by cases h; constructor
theorem UnderWay.setRxq (h : UnderWay s m) (q : List Byte) : UnderWay s (m.setRxq q) := by cases h; constructor
theorem UnderWay.setConn (h : UnderWay s m) (c : Bool) : UnderWay s (m.setConn c) := by cases h; constructor
theorem UnderWay.drawn (h : UnderWay s m) (k : Nat) : UnderWay s (m.drawn k) := by cases h; constructor

/-- `t` is at IDLE with the streams, the connection and the answers of `m`, and the setup of `s`. -/
structure EndsFrom (s m t : State) : Prop where
  txs : t.txs = m.txs
  rxq : t.rxq = m.rxq
  conn : t.conn = m.conn
  answers : t.answers = m.answers
  draws : t.draws = m.draws
  inputs : t.inputs = m.inputs
  idle : t.busy = false ∧ t.phase = .idle
  setup : SameSetup s t

theorem fail_ends {code : Status} (hfl : InFlight s) (hc : code ≠ .ok) (hm : UnderWay s m) :
    Failed code s (fail code m) ∧ EndsFrom s m (fail code m) := by
  cases hm
  refine ⟨fail_failed (s := State.mk ..) ⟨hfl.1, hfl.2, hfl.3⟩ hc, ?_⟩
  rw [fail_eq]
  exact ⟨rfl, rfl, rfl, rfl, rfl, rfl, ⟨rfl, rfl⟩, rfl⟩

theorem finish_ends {r : List Byte} (hfl : InFlight s) (hr : r.length = awaited s) (hm : UnderWay s m) :
    Succeeded r s (finish r m) ∧ EndsFrom s m (finish r m) := by
  cases hm
  refine ⟨finish_succeeded (s := State.mk ..) ⟨hfl.1, hfl.2, hfl.3⟩ hr, ?_⟩
  rw [finish_eq]
  exact ⟨rfl, rfl, rfl, rfl, rfl, rfl, ⟨rfl, rfl⟩, rfl⟩

/-- After a failure the rest of the run is idle. -/
theorem runFrom_failed {code : Status} (h : step s = .next (fail code m)) (hn : m.blockNext k) :
    runFrom (k + 1) s = .next (fail code (m.setInputs (m.inputs.drop k))) := by
  have hp : (fail code m).phase = .idle := by rw [fail_eq]
  have hin : (fail code m).inputs = m.inputs := by rw [fail_eq]
  rw [runFrom_succ h, runFrom_idle hp (by rw [State.blockNext, hin]; exact hn), hin, fail_eq, fail_eq]
  rfl

/-! The steps of the exchange within a run. -/

/-- At TX the block's turn is FRAME on what FRM holds. -/
theorem advance_tx (hw : s.wf = true) (hp : s.phase = .tx) :
    ∃ opc p ck, p.length ≤ 255 ∧ frameHead s.cfg opc p ++ [ck] = frameOperand s ∧
      advance s = execFrame opc p ck s := by
  obtain ⟨opc, p, ck, hl, hf, hd⟩ := State.wf_frame hw (State.wf_busy hw (by simp [hp]))
  exact ⟨opc, p, ck, hl, hf.symm, by simp only [advance, hp, sendStep, hd]; rfl⟩

/-- The state at FLUSH, the block's write answered ok. -/
def afterWrite (s : State) : State :=
  { s with
    txs := s.txs ++ frameOperand s, busy := true, phase := .flush
    answers := s.answers.drop 1, draws := s.draws + (1 - s.answers.length), inputs := s.inputs.drop 1 }

/-- The state at RX, the flush after it answered ok too. -/
def afterFlush (s : State) : State :=
  { s with
    txs := s.txs ++ frameOperand s, busy := true, phase := .rx
    answers := s.answers.drop 2, draws := s.draws + (2 - s.answers.length), inputs := s.inputs.drop 2 }

theorem afterWrite_drawAt (s : State) (k : Nat) : (afterWrite s).drawAt k = s.drawAt (1 + k) :=
  (State.drawAt_congr (t := afterWrite s) (s := s.drawn 1) rfl rfl k).trans (State.drawAt_drawn s 1 k)

theorem afterFlush_drawAt (s : State) (k : Nat) : (afterFlush s).drawAt k = s.drawAt (2 + k) :=
  (State.drawAt_congr (t := afterFlush s) (s := s.drawn 2) rfl rfl k).trans (State.drawAt_drawn s 2 k)

@[simp] theorem afterWrite_inputs (s : State) : (afterWrite s).inputs = s.inputs.drop 1 := rfl

/-- Once the write is answered ok the run goes on at FLUSH. -/
theorem runFrom_afterWrite (hw : s.wf = true) (hp : s.phase = .tx) (hn : s.blockNext (k + 1)) (hc : s.conn = true)
    (hd : (s.drawAt 0).fault = false) : runFrom (k + 1) s = runFrom k (afterWrite s) ∧ (afterWrite s).blockNext k := by
  obtain ⟨hstep, hn'⟩ := step_blockNext hn
  obtain ⟨opc, p, ck, hl, hf, hadv⟩ := advance_tx (s := s.setInputs (s.inputs.drop 1)) hw hp
  rw [← State.drawAt_setInputs s (s.inputs.drop 1)] at hd
  have hrun := hstep.trans (hadv.trans (execFrame_ok hp hl hc hd))
  rw [hf] at hrun
  have hnext : (((s.setInputs (s.inputs.drop 1)).drawn 1).setTxs
      (s.txs ++ frameOperand (s.setInputs (s.inputs.drop 1)))).setPhase .flush = afterWrite s := by
    simp only [State.setPhase, State.setTxs, State.drawn, State.setAnswers, State.setDraws, State.setInputs]
    rfl
  exact ⟨(runFrom_succ hrun).trans (congrArg _ hnext), State.blockNext_congr hn' rfl⟩

/-- At FLUSH the block's turn is the flush. -/
theorem step_afterWrite (hn : (afterWrite s).blockNext (k + 1)) :
    step (afterWrite s) = .next (flushStep ((afterWrite s).setInputs (s.inputs.drop 2))) := by
  have hin : (afterWrite s).inputs.drop 1 = s.inputs.drop 2 := List.drop_drop
  rw [(step_blockNext hn).1, hin, advance]
  rfl

/-- Once the flush is answered ok the run goes on at RX. -/
theorem runFrom_afterFlush (hn : (afterWrite s).blockNext (k + 1)) (hc : s.conn = true)
    (hd : (s.drawAt 1).fault = false) :
    runFrom (k + 1) (afterWrite s) = runFrom k (afterFlush s) ∧ (afterFlush s).blockNext k := by
  have hin : (afterWrite s).inputs.drop 1 = s.inputs.drop 2 := List.drop_drop
  have hans : (afterWrite s).answers.drop 1 = s.answers.drop 2 := List.drop_drop
  have hlen : (afterWrite s).answers.length = s.answers.length - 1 := List.length_drop
  have hdraws : (afterWrite s).draws + (1 - (afterWrite s).answers.length) = s.draws + (2 - s.answers.length) := by
    rw [hlen]; show s.draws + _ + _ = _; omega
  have hd' : (((afterWrite s).setInputs (s.inputs.drop 2)).drawAt 0).fault = false := by
    rw [State.drawAt_setInputs, afterWrite_drawAt]; exact hd
  have hnext : (((afterWrite s).setInputs (s.inputs.drop 2)).drawn 1).setPhase .rx = afterFlush s := by
    simp only [State.drawn, State.setInputs_answers, State.setInputs_draws, hans, hdraws]
    rfl
  have hflush := (step_afterWrite hn).trans (congrArg _ (flushStep_ok hc hd'))
  rw [hnext] at hflush
  refine ⟨runFrom_succ hflush, ?_⟩
  have hn' := (step_blockNext hn).2
  rw [hin] at hn'
  exact State.blockNext_congr hn' rfl

/-- At RX the block's turn is the read, and it ends the run. -/
theorem runFrom_one_afterFlush (hn : (afterFlush s).blockNext 1)
    (h : readStep ((afterFlush s).setInputs (s.inputs.drop 3)) = .next t) : runFrom 1 (afterFlush s) = .next t := by
  have hin : (afterFlush s).inputs.drop 1 = s.inputs.drop 3 := List.drop_drop
  have hstep : step (afterFlush s) = .next t := by
    rw [(step_blockNext hn).1, hin, advance]; exact h
  exact runFrom_succ hstep

/-- How three turns of the block end the exchange in flight at `s`. -/
structure ExchangeRun (s t : State) : Prop where
  ends : ExchangeEnds (frameOperand s) (s.drawAt 0) (s.drawAt 1) (s.drawAt 2) s t
  setup : SameSetup s t
  idle : t.busy = false ∧ t.phase = .idle
  inputs : t.inputs = s.inputs.drop 3
  draws : 3 ≤ s.answers.length → t.draws = s.draws

theorem exchangeRun_of_ends (h : EndsFrom s m t) (hi : m.inputs = s.inputs.drop 3)
    (hd : 3 ≤ s.answers.length → m.draws = s.draws)
    (hx : ExchangeEnds (frameOperand s) (s.drawAt 0) (s.drawAt 1) (s.drawAt 2) s t) : ExchangeRun s t :=
  ⟨hx, h.setup, h.idle, h.inputs.trans hi, fun hlen => h.draws.trans (hd hlen)⟩

/-- A run that ends in a failure does what `ExchangeEnds` says if the failure is in the right branch. -/
theorem exchangeRun_of_fail {code : Status} (hrun : runFrom 3 s = .next (fail code m)) (hfl : InFlight s)
    (hc : code ≠ .ok) (hm : UnderWay s m) (hi : m.inputs = s.inputs.drop 3)
    (hd : 3 ≤ s.answers.length → m.draws = s.draws)
    (hx : ∀ t, Failed code s t → EndsFrom s m t →
      ExchangeEnds (frameOperand s) (s.drawAt 0) (s.drawAt 1) (s.drawAt 2) s t) :
    ∃ t, runFrom 3 s = .next t ∧ ExchangeRun s t := by
  obtain ⟨hf, he⟩ := fail_ends hfl hc hm
  exact ⟨_, hrun, exchangeRun_of_ends he hi hd (hx _ hf he)⟩

/-- The same of a run that ends in a full read. -/
theorem exchangeRun_of_finish {r : List Byte} (hrun : runFrom 3 s = .next (finish r m)) (hfl : InFlight s)
    (hr : r.length = awaited s) (hm : UnderWay s m) (hi : m.inputs = s.inputs.drop 3)
    (hd : 3 ≤ s.answers.length → m.draws = s.draws)
    (hx : ∀ t, Succeeded r s t → EndsFrom s m t →
      ExchangeEnds (frameOperand s) (s.drawAt 0) (s.drawAt 1) (s.drawAt 2) s t) :
    ∃ t, runFrom 3 s = .next t ∧ ExchangeRun s t := by
  obtain ⟨hf, he⟩ := finish_ends hfl hr hm
  exact ⟨_, hrun, exchangeRun_of_ends he hi hd (hx _ hf he)⟩

theorem UnderWay.afterWrite (s : State) : UnderWay s (afterWrite s) := by constructor
theorem UnderWay.afterFlush (s : State) : UnderWay s (afterFlush s) := by constructor

/-- The branches of `ExchangeEnds` that end at the write: no connection, or a fault. -/
theorem exchange_unsent (hw : s.wf = true) (hp : s.phase = .tx) (hn : s.blockNext 3)
    (h : s.conn = true → (s.drawAt 0).fault = true) : ∃ t, runFrom 3 s = .next t ∧ ExchangeRun s t := by
  have hfl := State.wf_inFlight hw (State.wf_busy hw (by simp [hp]))
  obtain ⟨hstep, hn1⟩ := step_blockNext hn
  obtain ⟨opc, p, ck, hl, hf, hadv⟩ := advance_tx (s := s.setInputs (s.inputs.drop 1)) hw hp
  have hf : frameHead s.cfg opc p ++ [ck] = frameOperand s := hf
  have hin : (s.inputs.drop 1).drop 2 = s.inputs.drop 3 := List.drop_drop
  cases hc : s.conn with
  | false =>
    have hfail := hstep.trans (hadv.trans (execFrame_unconnected hp hl hc))
    refine exchangeRun_of_fail (runFrom_failed hfail hn1) hfl nofun (((UnderWay.refl s).setInputs _).setInputs _)
      hin (fun _ => rfl) fun t hF he => ?_
    rw [ExchangeEnds, if_pos hc]
    exact ⟨hF, he.txs, he.rxq, he.conn.trans hc, he.answers⟩
  | true =>
    have hd := h hc
    have hfail := execFrame_fault (s := s.setInputs (s.inputs.drop 1)) (opc := opc) (ck := ck) hp hl hc
      (by rw [State.drawAt_setInputs]; exact hd)
    simp only [State.drawAt_setInputs, State.setInputs_txs, State.setInputs_cfg, hf] at hfail
    refine exchangeRun_of_fail (runFrom_failed (hstep.trans (hadv.trans hfail)) (State.blockNext_congr hn1 rfl)) hfl
      nofun (((((UnderWay.refl s).setInputs _).drawn 1).setTxs _).setConn _ |>.setInputs _) hin (fun hlen => ?_)
      fun t hF he => ?_
    · simp [State.drawn]; omega
    rw [ExchangeEnds, if_neg (by simp [hc]), if_pos hd]
    exact ⟨hF, he.txs, by simp [he.rxq, State.drawn], he.conn, by simp [he.answers, State.drawn]⟩

/-- The branch that ends at the flush. -/
theorem exchange_unflushed (hw : s.wf = true) (hp : s.phase = .tx) (hn : s.blockNext 3) (hc : s.conn = true)
    (hd1 : (s.drawAt 0).fault = false) (hd2 : (s.drawAt 1).fault = true) :
    ∃ t, runFrom 3 s = .next t ∧ ExchangeRun s t := by
  have hfl := State.wf_inFlight hw (State.wf_busy hw (by simp [hp]))
  obtain ⟨hrun, hn2⟩ := runFrom_afterWrite hw hp hn hc hd1
  have hdraw : ((afterWrite s).setInputs (s.inputs.drop 2)).drawAt 0 = s.drawAt 1 := by
    rw [State.drawAt_setInputs, afterWrite_drawAt]
  have hfail := flushStep_fault (s := (afterWrite s).setInputs (s.inputs.drop 2)) hc (by rw [hdraw, hd2])
  rw [hdraw] at hfail
  have hstep := (step_afterWrite hn2).trans (congrArg _ hfail)
  have hn3 := (step_blockNext hn2).2
  rw [afterWrite_inputs, List.drop_drop] at hn3
  have hin : (s.inputs.drop 2).drop 1 = s.inputs.drop 3 := List.drop_drop
  refine exchangeRun_of_fail (hrun.trans (runFrom_failed hstep (State.blockNext_congr hn3 rfl))) hfl nofun
    ((((UnderWay.afterWrite s).setInputs _).drawn 1).setConn _ |>.setInputs _) hin (fun hlen => ?_) fun t hF he => ?_
  · simp [State.drawn, afterWrite]; omega
  rw [ExchangeEnds, if_neg (by simp [hc]), if_neg (by simp [hd1]), if_pos hd2]
  exact ⟨hF, he.txs, by simp [he.rxq, State.drawn, afterWrite], he.conn,
    by simp [he.answers, State.drawn, afterWrite]⟩

/-- The branches that end at the read: none awaited, a fault, a full or a short read. -/
theorem exchange_read (hw : s.wf = true) (hp : s.phase = .tx) (hn : s.blockNext 3) (hc : s.conn = true)
    (hd1 : (s.drawAt 0).fault = false) (hd2 : (s.drawAt 1).fault = false) :
    ∃ t, runFrom 3 s = .next t ∧ ExchangeRun s t := by
  have hfl := State.wf_inFlight hw (State.wf_busy hw (by simp [hp]))
  obtain ⟨hrun, hn2⟩ := runFrom_afterWrite hw hp hn hc hd1
  obtain ⟨hrun', hn3⟩ := runFrom_afterFlush hn2 hc hd2
  have hread {t : State} (h : readStep ((afterFlush s).setInputs (s.inputs.drop 3)) = .next t) :
      runFrom 3 s = .next t := hrun.trans (hrun'.trans (runFrom_one_afterFlush hn3 h))
  have hdraw : ((afterFlush s).setInputs (s.inputs.drop 3)).drawAt 0 = s.drawAt 2 := by
    rw [State.drawAt_setInputs, afterFlush_drawAt]
  have hum := (UnderWay.afterFlush s).setInputs (s.inputs.drop 3)
  by_cases haw : awaited s = 0
  · refine exchangeRun_of_finish (hread (readStep_none rfl haw)) hfl haw.symm hum rfl (fun hlen => ?_) fun t hS he => ?_
    · simp [afterFlush]; omega
    rw [ExchangeEnds, if_neg (by simp [hc]), if_neg (by simp [hd1]), if_neg (by simp [hd2]), if_pos haw]
    exact ⟨hS, he.txs, he.rxq, he.conn.trans hc, he.answers⟩
  have hpos : 0 < awaited s := Nat.pos_of_ne_zero haw
  cases hd3 : (s.drawAt 2).fault with
  | true =>
    have hfail := readStep_fault (s := (afterFlush s).setInputs (s.inputs.drop 3)) hpos hc (by rw [hdraw, hd3])
    rw [hdraw] at hfail
    refine exchangeRun_of_fail (hread hfail) hfl nofun ((hum.drawn 1).setConn _) rfl (fun hlen => ?_) fun t hF he => ?_
    · simp [State.drawn, afterFlush]; omega
    rw [ExchangeEnds, if_neg (by simp [hc]), if_neg (by simp [hd1]), if_neg (by simp [hd2]), if_neg haw, if_pos hd3]
    exact ⟨hF, he.txs, by simp [he.rxq, State.drawn, afterFlush], he.conn,
      by simp [he.answers, State.drawn, afterFlush]⟩
  | false =>
    rw [← hdraw] at hd3
    by_cases hfull : awaited s ≤ (s.drawAt 2).got ∧ awaited s ≤ s.rxq.length
    · have hread3 := readStep_full (s := (afterFlush s).setInputs (s.inputs.drop 3)) rfl hpos hc hd3
        (by rw [hdraw]; exact hfull.1) hfull.2
      refine exchangeRun_of_finish (hread hread3) hfl (List.length_take_of_le hfull.2) ((hum.drawn 1).setRxq _) rfl
        (fun hlen => ?_) fun t hS he => ?_
      · simp [State.drawn, afterFlush]; omega
      rw [hdraw] at hd3
      rw [ExchangeEnds, if_neg (by simp [hc]), if_neg (by simp [hd1]), if_neg (by simp [hd2]), if_neg haw,
        if_neg (by simp [hd3]), if_pos hfull]
      exact ⟨hS, he.txs, he.rxq, he.conn.trans hc, by simp [he.answers, State.drawn, afterFlush]⟩
    · have hread3 := readStep_short (s := (afterFlush s).setInputs (s.inputs.drop 3)) rfl hpos hc hd3
        (by rw [hdraw]; show _ < awaited s ∨ s.rxq.length < awaited s; omega)
      rw [hdraw] at hread3 hd3
      refine exchangeRun_of_fail (hread hread3) hfl nofun ((hum.drawn 1).setRxq _) rfl (fun hlen => ?_)
        fun t hF he => ?_
      · simp [State.drawn, afterFlush]; omega
      rw [ExchangeEnds, if_neg (by simp [hc]), if_neg (by simp [hd1]), if_neg (by simp [hd2]), if_neg haw,
        if_neg (by simp [hd3]), if_neg hfull]
      exact ⟨hF, he.txs, he.rxq, he.conn.trans hc, by simp [he.answers, State.drawn, afterFlush]⟩

/-- A CALL or XFER in flight, the block's turns to come, ends as `ExchangeEnds` says, by the transport's next three
answers, listed or free. -/
theorem runFrom_exchange (hw : s.wf = true) (hp : s.phase = .tx) (hn : s.blockNext 3) :
    ∃ t, runFrom 3 s = .next t ∧ ExchangeRun s t := by
  by_cases h1 : s.conn = true → (s.drawAt 0).fault = true
  · exact exchange_unsent hw hp hn h1
  obtain ⟨hc, hd1⟩ : s.conn = true ∧ (s.drawAt 0).fault = false := by simpa using h1
  cases hd2 : (s.drawAt 1).fault with
  | true => exact exchange_unflushed hw hp hn hc hd1 hd2
  | false => exact exchange_read hw hp hn hc hd1 hd2

end Sys2Proof.Machine
end

section
/-! PROOFS. A CALL or XFER from the host's write of its word to its end (41_dispatcher section 1 and 2), and obligations
O39 to O42. -/

namespace Sys2Proof.Machine

open Claims

variable {s m t u : State} {w : Word} {f : CmdFields} {rest : List Input} {k : Nat}

/-! The words of CALL and XFER. -/

theorem commandWord_mod_eight (op : BitVec 3) (f : CmdFields) : (commandWord 0 op f).toNat % 8 = op.toNat := by
  have := commandWord_toNat 0 op f
  have := op.isLt
  omega

theorem callWord_mod (f : CmdFields) : (commandWord 0 4 f).toNat % 8 = 4 := commandWord_mod_eight 4 f
theorem xferWord_mod (f : CmdFields) : (commandWord 0 5 f).toNat % 8 = 5 := commandWord_mod_eight 5 f

theorem cmdFields_commandWord_zero (op : BitVec 3) (f : CmdFields) : cmdFields (commandWord 0 op f) = f :=
  (cmdFields_commandWord 0 op f).2.2

/-- A CALL with EXP at most RX_MAX is not refused (R93). -/
theorem call_not_refused (he : s.exp.toNat ≤ s.cfg.rxMax) : ¬ RefusedWord s (commandWord 0 4 f) := by
  have hop := callWord_mod f
  have hrsv := rsv_toNat (commandWord 0 4 f)
  rw [(cmdFields_commandWord 0 4 f).1] at hrsv
  have h0 : (0 : BitVec 4).toNat = 0 := rfl
  unfold RefusedWord; omega

/-- An XFER with both counts at most MAX_VALUES is not refused (R93). -/
theorem xfer_not_refused (hn : f.nv.toNat ≤ s.cfg.maxValues.val) (ha : f.ar.toNat ≤ s.cfg.maxValues.val) :
    ¬ RefusedWord s (commandWord 0 5 f) := by
  have hop := xferWord_mod f
  have hrsv := rsv_toNat (commandWord 0 5 f)
  rw [(cmdFields_commandWord 0 5 f).1] at hrsv
  have h0 : (0 : BitVec 4).toNat = 0 := rfl
  have hnv := cmdFields_nv_toNat (commandWord 0 5 f)
  have har := cmdFields_ar_toNat (commandWord 0 5 f)
  rw [cmdFields_commandWord_zero] at hnv har
  unfold RefusedWord; omega

/-! The issue. -/

/-- The payload a CALL or XFER word sends (R120, R126). -/
def exchangePayload (w : Word) (s : State) : List Byte :=
  if w.toNat % 8 = 4 then payloadOperand s else packedOperand (cmdFields w) s

theorem exchangePayload_length_le (w : Word) (s : State) : (exchangePayload w s).length ≤ 255 := by
  unfold exchangePayload
  split
  · exact payloadOperand_length_le s
  · exact packedOperand_length_le _ s

theorem exchangePayload_call (hw : s.wf = true) (f : CmdFields) :
    exchangePayload (commandWord 0 4 f) s = firstBits s.plen.toNat s.pay := by
  rw [exchangePayload, if_pos (callWord_mod f), payloadOperand_eq hw]

theorem exchangePayload_xfer (hw : s.wf = true) (hn : f.nv.toNat ≤ s.cfg.maxValues.val) :
    exchangePayload (commandWord 0 5 f) s = floatPayload f s := by
  have hop := xferWord_mod f
  rw [exchangePayload, if_neg (by omega), cmdFields_commandWord_zero, packedOperand_eq hw hn]

/-- The frame a CALL or XFER word sends. -/
def exchangeFrame (w : Word) (s : State) : List Byte := wireFrame s.cfg (cmdFields w).opc (exchangePayload w s)

/-- The state after the issue of a CALL or XFER (R121, first row). -/
def issued (w : Word) (s : State) : State :=
  { s with
    cmd := w, frm := overwrite s.frm (exchangeFrame w s), flen := BitVec.ofNat 9 (4 + (exchangePayload w s).length)
    busy := true, phase := .tx }

theorem issued_eq (w : Word) (s : State) :
    (framed (cmdFields w).opc (exchangePayload w s) (s.setCmd w)).setPhase .tx = issued w s := by
  simp only [framed, State.setPhase, State.setFrame, State.setCmd, frameHead_cksum8_eq_wireFrame]
  rfl

/-- The word of a CALL or XFER that is not refused issues it. -/
theorem exec_issued (hb : s.busy = false) (hr : ¬ RefusedWord s w) (hop : w.toNat % 8 = 4 ∨ w.toNat % 8 = 5) :
    exec (decodeWord w) s = .next (issued w s) := by
  obtain ⟨t, ht, hx⟩ := exec_decodeWord_executes hb hr
  rw [ht, ← issued_eq, exchangePayload]
  cases hx with
  | encode h => omega
  | encf h => omega
  | decfMatch h => omega
  | decfMismatch h => omega
  | call h => rw [if_pos h]
  | xfer h => rw [if_neg (by omega)]

theorem step_issued (hb : s.busy = false) (hi : s.inputs = .write 0x000 w :: rest) (hr : ¬ RefusedWord s w)
    (hop : w.toNat % 8 = 4 ∨ w.toNat % 8 = 5) : step s = .next (issued w (s.setInputs rest)) := by
  rw [step_input hi]
  exact (hostWrite_idle (s := s.setInputs rest) regAt_cmd hb).trans (exec_issued (s := s.setInputs rest) hb hr hop)

theorem issued_wf (hw : s.wf = true) (hr : ¬ RefusedWord s w) (hop : w.toNat % 8 = 4 ∨ w.toNat % 8 = 5) :
    (issued w s).wf = true := by
  rw [← issued_eq]
  exact State.wf_issued hw _ (exchangePayload_length_le w s) hr hop

/-- The issued frame stands in FRM and FLEN. -/
theorem issued_holdsFrame (hw : s.wf = true) (w : Word) : HoldsFrame (exchangeFrame w s) (issued w s) := by
  obtain ⟨-, -, -, hfrm, -⟩ := (State.wf_iff s).mp hw
  rw [← issued_eq]
  exact framed_holdsFrame (s := s.setCmd w) _ (exchangePayload_length_le w s) hfrm

/-! The whole exchange. -/

/-- How a CALL or XFER whose word lands at `s` has run, the block's turns following and then the moves `rest`. -/
structure IssueRun (w : Word) (s : State) (rest : List Input) (t : State) : Prop where
  ends : ExchangeEnds (exchangeFrame w s) (s.drawAt 0) (s.drawAt 1) (s.drawAt 2) { s with cmd := w } t
  frame : HoldsFrame (exchangeFrame w s) t
  draws : 3 ≤ s.answers.length → t.draws = s.draws
  setup : t = { s with
    cmd := w, frm := t.frm, flen := t.flen, txs := t.txs, rxq := t.rxq, conn := t.conn, rbuf := t.rbuf
    rlen := t.rlen, val := t.val, ok := t.ok, status := t.status, answers := t.answers, draws := t.draws
    inputs := rest.drop 3 }

/-- An issued CALL or XFER runs to its end in four steps. -/
theorem runFrom_issue (hw : s.wf = true) (hb : s.busy = false) (hi : s.inputs = .write 0x000 w :: rest)
    (hrest : ∀ i ∈ rest.take 3, i = .run) (hr : ¬ RefusedWord s w) (hop : w.toNat % 8 = 4 ∨ w.toNat % 8 = 5) :
    ∃ t, runFrom 4 s = .next t ∧ IssueRun w s rest t := by
  have hheld := issued_holdsFrame (s := s.setInputs rest) hw w
  obtain ⟨t, hrun, hx⟩ := runFrom_exchange (issued_wf (s := s.setInputs rest) hw hr hop) rfl hrest
  have hdraw (k : Nat) : (issued w (s.setInputs rest)).drawAt k = s.drawAt k :=
    State.drawAt_congr (t := issued w (s.setInputs rest)) (s := s) rfl rfl k
  refine ⟨t, (runFrom_succ (step_issued hb hi hr hop)).trans hrun, ?_⟩
  have hends := hx.ends
  rw [hdraw, hdraw, hdraw, frameOperand, hheld.frame_eq] at hends
  have hset := hx.setup
  rw [SameSetup] at hset
  have hfrm : t.frm = (issued w (s.setInputs rest)).frm := by rw [hset]
  have hflen : t.flen = (issued w (s.setInputs rest)).flen := by rw [hset]
  have hbusy : t.busy = s.busy := hx.idle.1.trans hb.symm
  have hphase : t.phase = s.phase := hx.idle.2.trans (State.wf_idle hw hb).symm
  refine ⟨hends, ?_, hx.draws, hset.trans ?_⟩
  · rw [HoldsFrame, hfrm, hflen]; exact hheld
  · rw [hfrm, hflen, hbusy, hphase, hx.inputs]; rfl

end Sys2Proof.Machine

namespace Sys2Proof.Claims

open Sys2Proof.Machine

variable {s t : State}

/-- However it ends, the exchange has failed with a code of the failure channel or has succeeded. -/
theorem ExchangeEnds.outcome {frame : List Byte} {d1 d2 d3 : Draw}
    (h : ExchangeEnds frame d1 d2 d3 s t) :
    (∃ code, Failed code s t ∧ code ≠ .refused) ∨ (∃ r, Succeeded r s t ∧ r.length = awaited s) := by
  unfold ExchangeEnds at h
  split at h
  · exact .inl ⟨_, h.1, nofun⟩
  split at h
  · exact .inl ⟨_, h.1, nofun⟩
  split at h
  · exact .inl ⟨_, h.1, nofun⟩
  split at h
  · next haw => exact .inr ⟨_, h.1, haw.symm⟩
  split at h
  · exact .inl ⟨_, h.1, nofun⟩
  split at h
  · next hfull => exact .inr ⟨_, h.1, List.length_take_of_le hfull.2⟩
  · exact .inl ⟨_, h.1, nofun⟩

/-- What both ends of an exchange have in common: RLEN, IDLE, and for XFER the values in VAL[0..AR-1] alone. -/
structure Over (s t : State) : Prop where
  rlen : t.rlen.toNat = awaited s
  busy : t.busy = false
  phase : t.phase = .idle
  call : isTransfer s = false → t.val = s.val
  xfer : isTransfer s = true → ∃ new : List Word, new.length = arity s ∧ Overwritten new s.val t.val

theorem Failed.over {code : Status} (h : Failed code s t) : Over s t := by
  obtain ⟨-, hrlen, hval, -, -, hbusy, hphase⟩ := h
  refine ⟨hrlen, hbusy, hphase, fun ht => ?_, fun ht => ?_⟩
  · rwa [if_neg (by simp [ht])] at hval
  · rw [if_pos ht] at hval; exact ⟨_, List.length_replicate, hval⟩

theorem Succeeded.over {r : List Byte} (h : Succeeded r s t) : Over s t := by
  obtain ⟨-, hrlen, hval, -, -, hbusy, hphase⟩ := h
  refine ⟨hrlen, hbusy, hphase, fun ht => ?_, fun ht => ?_⟩
  · rwa [if_neg (by simp [ht])] at hval
  · rw [if_pos ht] at hval; exact ⟨_, valuesIn_length _ _, hval⟩

theorem ExchangeEnds.over {frame : List Byte} {d1 d2 d3 : Draw} (h : ExchangeEnds frame d1 d2 d3 s t) : Over s t := by
  obtain ⟨code, hf, -⟩ | ⟨r, hs, -⟩ := h.outcome
  · exact hf.over
  · exact hs.over

/-- The first three listed answers are the ones taken. -/
theorem drawAt_of_answers {d1 d2 d3 : Draw} {rest : List Draw} (h : s.answers = d1 :: d2 :: d3 :: rest) :
    s.drawAt 0 = d1 ∧ s.drawAt 1 = d2 ∧ s.drawAt 2 = d3 := by
  simp [State.drawAt, h]

/-- Settles O39: the issue builds the frame, and three turns of the block end the exchange. -/
theorem callRunsTheFourSteps : Obligations.CallRunsTheFourSteps := by
  intro s f d1 d2 d3 rest hw hb _ he hi ha
  obtain ⟨t, hrun, hends, hframe, hdraws, hset⟩ :=
    runFrom_issue hw hb hi nofun (call_not_refused he) (.inl (callWord_mod f))
  obtain ⟨rfl, rfl, rfl⟩ := drawAt_of_answers ha
  rw [exchangeFrame, exchangePayload_call hw, cmdFields_commandWord_zero] at hends hframe
  have hval : t.val = s.val := hends.over.call (isTransfer_call rfl)
  have hdraws : t.draws = s.draws := hdraws (by simp [ha])
  have hcmd : t.cmd = commandWord 0 4 f := by rw [hset]
  refine ⟨t, hrun, hcmd, hframe, hends, hset.trans ?_⟩
  rw [hval, hdraws, hcmd]; rfl

/-- Settles O40: the same for an XFER's word, whose values go to VAL[0..AR-1] alone. -/
theorem xferRunsTheFourSteps : Obligations.XferRunsTheFourSteps := by
  intro s f d1 d2 d3 rest hw hb _ hn har hi ha
  obtain ⟨t, hrun, hends, hframe, hdraws, hset⟩ :=
    runFrom_issue hw hb hi nofun (xfer_not_refused hn har) (.inr (xferWord_mod f))
  obtain ⟨rfl, rfl, rfl⟩ := drawAt_of_answers ha
  rw [exchangeFrame, exchangePayload_xfer hw hn, cmdFields_commandWord_zero] at hends hframe
  have hdraws : t.draws = s.draws := hdraws (by simp [ha])
  have hcmd : t.cmd = commandWord 0 5 f := by rw [hset]
  have hover := hends.over
  obtain ⟨new, hlen, hval⟩ := hover.xfer (isTransfer_xfer rfl)
  rw [arity_commandWord (op := 5) (f := f) rfl] at hlen
  refine ⟨t, hrun, hcmd, hover.rlen.trans (awaited_xfer rfl), hframe, hends, ?_, hset.trans ?_⟩
  · rw [hval, ← hlen, List.drop_left' (List.length_map ..)]
  · rw [hdraws, hcmd]; rfl

/-- Settles O42: the write faults before any byte moves, and the block is back at IDLE. -/
theorem unconnectedCallFails : Obligations.UnconnectedCallFails := by
  intro s w hw hb hc hi hop hr
  have hwf := issued_wf (s := s.setInputs []) hw hr hop
  have hfl := State.wf_inFlight hwf rfl
  obtain ⟨opc, p, ck, hl, -, hadv⟩ := advance_tx hwf rfl
  have hstep : step (issued w (s.setInputs [])) = .next (fail .transportFault (issued w (s.setInputs []))) :=
    (step_block rfl).trans (hadv.trans (execFrame_unconnected rfl hl hc))
  refine ⟨_, runFrom_two (step_issued hb hi hr hop) hstep, fail_failed hfl nofun, ?_⟩
  rw [fail_eq]
  exact ⟨rfl, rfl, hc, rfl⟩

/-! The progress of an exchange, turn by turn. -/

/-- Two states of one exchange: the setup and the moves stay, TXS has gained at most the frame (at TX), RXQ lost at
most the awaited bytes (not at IDLE). -/
structure Progress (s t : State) : Prop where
  txs : ∃ m, t.txs = s.txs ++ (if s.phase = .tx then (s.frm.take s.flen.toNat).take m else [])
  rxq : ∃ k, k ≤ awaited s ∧ (s.phase = .idle → k = 0) ∧ t.rxq = s.rxq.drop k
  setup : SameSetup s t

/-- How many turns of the block a phase is from IDLE (R121). -/
def turnsLeft : Phase → Nat
  | .idle => 0
  | .rx => 1
  | .flush => 2
  | .tx => 3

theorem phase_idle_of_turnsLeft {p : Phase} (h : turnsLeft p = 0) : p = .idle := by cases p <;> trivial

theorem turnsLeft_le (p : Phase) : turnsLeft p ≤ 3 := by cases p <;> decide

/-- A turn of the block keeps the setup and the moves. -/
theorem blockTurn_setup (h : BlockTurn s t) : SameSetup s t ∧ t.inputs = s.inputs := by
  cases h with
  | idle => exact ⟨rfl, rfl⟩
  | sent _ hm => cases hm; exact ⟨rfl, rfl⟩
  | flushed _ hm => cases hm; exact ⟨rfl, rfl⟩
  | failed _ _ _ hm => cases hm; rw [fail_eq]; exact ⟨rfl, rfl⟩
  | finished _ _ hm => cases hm; rw [finish_eq]; exact ⟨rfl, rfl⟩

/-- A turn of the block goes at least one arrow further. -/
theorem blockTurn_turnsLeft (h : BlockTurn s t) : turnsLeft t.phase ≤ turnsLeft s.phase - 1 := by
  cases h with
  | idle hp => rw [hp]; exact Nat.le_refl 0
  | sent hp => rw [hp]; exact Nat.le_refl 2
  | flushed hp => rw [hp]; exact Nat.le_refl 1
  | failed => rw [fail_eq]; exact Nat.zero_le _
  | finished => rw [finish_eq]; exact Nat.zero_le _

theorem sameSetup_awaited {m : State} (h : SameSetup s m) : awaited m = awaited s :=
  awaited_congr (by rw [h]) (by rw [h])

/-- An idle state has progressed to itself. -/
theorem progress_refl (s : State) : Progress s s :=
  ⟨⟨0, by simp⟩, ⟨0, Nat.zero_le _, fun _ => rfl, rfl⟩, rfl⟩

/-- One more turn before a stretch of progress: past the first turn TXS stays, and a turn that takes bytes ends. -/
theorem progress_cons {m : State} (h : BlockTurn s m) (hp : Progress m t) : Progress s t := by
  obtain ⟨j, htxs⟩ := h.txs_eq
  obtain ⟨k, hk, hrx, hrxq⟩ := h.rxq_eq
  obtain ⟨⟨j', htxs'⟩, ⟨k', hk', hidle', hrxq'⟩, hset'⟩ := hp
  have hset := (blockTurn_setup h).1
  have hleft := blockTurn_turnsLeft h
  have hle := turnsLeft_le s.phase
  have hntx : m.phase ≠ .tx := fun hm => by rw [hm, turnsLeft] at hleft; omega
  rw [if_neg hntx, List.append_nil] at htxs'
  refine ⟨⟨j, htxs'.trans htxs⟩, ?_, ?_⟩
  · by_cases hk0 : k = 0
    · rw [hrxq, hk0] at hrxq'
      refine ⟨k', hk'.trans_eq (sameSetup_awaited hset), fun hp => hidle' ?_, hrxq'⟩
      exact phase_idle_of_turnsLeft (by rw [hp] at hleft; exact Nat.le_zero.mp hleft)
    · have hsrx := hrx hk0
      have hk'0 := hidle' (phase_idle_of_turnsLeft (by rw [hsrx] at hleft; exact Nat.le_zero.mp hleft))
      rw [hk'0, hrxq] at hrxq'
      exact ⟨k, hk, fun hp => by simp [hsrx] at hp, hrxq'⟩
  · rw [SameSetup] at hset hset' ⊢
    rw [hset', hset]

/-- The block's turns bring an exchange to IDLE. -/
theorem runFrom_progress {k : Nat} (hw : s.wf = true) (hi : s.inputs = []) (hk : turnsLeft s.phase ≤ k) :
    ∃ t, runFrom k s = .next t ∧ t.phase = .idle ∧ Progress s t := by
  induction k generalizing s with
  | zero => exact ⟨s, rfl, phase_idle_of_turnsLeft (Nat.le_zero.mp hk), progress_refl s⟩
  | succ k ih =>
    obtain ⟨m, hm⟩ := advance_next hw
    have hbt := blockTurn_of_advance hm
    have hleft := blockTurn_turnsLeft hbt
    obtain ⟨t, hrun, hidle, hp⟩ := ih (hbt.wf hw) ((blockTurn_setup hbt).2.trans hi) (by omega)
    exact ⟨t, (runFrom_succ ((step_block hi).trans hm)).trans hrun, hidle, progress_cons hbt hp⟩

/-- Settles O41: each turn of the block goes one arrow further, or ends the exchange. -/
theorem everyExchangeEndsWithinThreeSteps : Obligations.EveryExchangeEndsWithinThreeSteps := by
  intro s hw hi _
  obtain ⟨t, hrun, hidle, htxs, ⟨k, hk, -, hrxq⟩, hset⟩ := runFrom_progress hw hi (turnsLeft_le s.phase)
  obtain ⟨-, -, -, -, -, -, hbusy, -⟩ := (State.wf_iff t).mp (runFrom_wf hw hrun)
  rw [SameSetup] at hset
  refine ⟨t, hrun, by simpa [hidle] using hbusy, hidle, htxs, ⟨k, hk, hrxq⟩, ?_⟩
  rw [hset]
  exact ⟨rfl, rfl, rfl, rfl, rfl, rfl⟩

end Sys2Proof.Claims
end

section
/-! PROOFS. What an exchange leaves depends on its operands and the transport alone (10_state R40): obligations O43, O45
and O46. -/

namespace Sys2Proof.Claims

open Sys2Proof.Machine

variable {s t u x y a b : State} {w : Word} {f : CmdFields} {code : Status} {reply : List Byte} {values : List Word}
  {done : Bool}

/-- An exchange issued at `s` has ended in `t` with this reply, for XFER these values, and this code: what `Failed` and
`Succeeded` have in common. -/
def Leaves (reply : List Byte) (values : List Word) (done : Bool) (code : Status) (s t : State) : Prop :=
  Overwritten reply s.rbuf t.rbuf ∧ t.rlen.toNat = awaited s ∧
  (if isTransfer s then Overwritten values s.val t.val else t.val = s.val) ∧
  t.ok = done ∧ t.status = code ∧ t.busy = false ∧ t.phase = .idle

/-- The values an exchange of this arity leaves: those of its reply, or zeros (R126, R150). -/
def exchangeValues (done : Bool) (reply : List Byte) (n : Nat) : List Word :=
  if done then valuesIn reply n else List.replicate n 0

@[simp] theorem exchangeValues_length (done : Bool) (reply : List Byte) (n : Nat) :
    (exchangeValues done reply n).length = n := by
  unfold exchangeValues
  split
  · exact valuesIn_length _ _
  · exact List.length_replicate

/-- Two exchanges of the same size have ended alike: the wire gained the same, RXQ and CONN are equal, and so are the
reply, the values and the flags. -/
structure EndAlike (x t y u : State) : Prop where
  txs : ∃ gained, t.txs = x.txs ++ gained ∧ u.txs = y.txs ++ gained
  rxq : t.rxq = u.rxq
  conn : t.conn = u.conn
  leaves : ∃ reply done code, reply.length = awaited x ∧
    Leaves reply (exchangeValues done reply (arity x)) done code x t ∧
    Leaves reply (exchangeValues done reply (arity x)) done code y u

section
variable {gained rxq : List Byte} {conn : Bool} {A B : Prop}

/-- Two ends in one failing branch of `ExchangeEnds`. -/
theorem endAlike_failed (haw : awaited x = awaited y) (har : arity x = arity y)
    (ht : Failed code x t ∧ t.txs = x.txs ++ gained ∧ t.rxq = rxq ∧ t.conn = conn ∧ A)
    (hu : Failed code y u ∧ u.txs = y.txs ++ gained ∧ u.rxq = rxq ∧ u.conn = conn ∧ B) : EndAlike x t y u := by
  obtain ⟨hft, htxs, htr, htc, -⟩ := ht
  obtain ⟨hfu, huxs, hur, huc, -⟩ := hu
  rw [Failed, ← haw, ← har] at hfu
  exact ⟨⟨_, htxs, huxs⟩, htr.trans hur.symm, htc.trans huc.symm, _, false, code, List.length_replicate, hft, haw ▸ hfu⟩

/-- Two ends in one succeeding branch. -/
theorem endAlike_succeeded (har : arity x = arity y) (hlen : reply.length = awaited x)
    (ht : Succeeded reply x t ∧ t.txs = x.txs ++ gained ∧ t.rxq = rxq ∧ t.conn = conn ∧ A)
    (hu : Succeeded reply y u ∧ u.txs = y.txs ++ gained ∧ u.rxq = rxq ∧ u.conn = conn ∧ B) : EndAlike x t y u := by
  obtain ⟨hst, htxs, htr, htc, -⟩ := ht
  obtain ⟨hsu, huxs, hur, huc, -⟩ := hu
  rw [Succeeded, ← har] at hsu
  exact ⟨⟨_, htxs, huxs⟩, htr.trans hur.symm, htc.trans huc.symm, reply, true, .ok, hlen, hst, hsu⟩

end

/-- The same frame under the same transport ends alike, whatever else the two states hold. -/
theorem exchangeEnds_alike {frame : List Byte} {d1 d2 d3 : Draw} (hconn : x.conn = y.conn) (hrxq : x.rxq = y.rxq)
    (haw : awaited x = awaited y) (har : arity x = arity y) (ht : ExchangeEnds frame d1 d2 d3 x t)
    (hu : ExchangeEnds frame d1 d2 d3 y u) : EndAlike x t y u := by
  unfold ExchangeEnds at ht hu
  rw [← hconn, ← haw, ← hrxq] at hu
  by_cases hc : x.conn = false
  · rw [if_pos hc, ← List.append_nil x.txs] at ht
    rw [if_pos hc, ← List.append_nil y.txs] at hu
    exact endAlike_failed haw har ht hu
  rw [if_neg hc] at ht hu
  by_cases h1 : d1.fault = true
  · rw [if_pos h1] at ht hu; exact endAlike_failed haw har ht hu
  rw [if_neg h1] at ht hu
  by_cases h2 : d2.fault = true
  · rw [if_pos h2] at ht hu; exact endAlike_failed haw har ht hu
  rw [if_neg h2] at ht hu
  by_cases h0 : awaited x = 0
  · rw [if_pos h0] at ht hu; exact endAlike_succeeded (reply := []) har h0.symm ht hu
  rw [if_neg h0] at ht hu
  by_cases h3 : d3.fault = true
  · rw [if_pos h3] at ht hu; exact endAlike_failed haw har ht hu
  rw [if_neg h3] at ht hu
  by_cases hg : awaited x ≤ d3.got ∧ awaited x ≤ x.rxq.length
  · rw [if_pos hg] at ht hu; exact endAlike_succeeded har (List.length_take_of_le hg.2) ht hu
  · rw [if_neg hg] at ht hu; exact endAlike_failed haw har ht hu

/-! O45. -/

/-- Parameters and, for CALL, EXP say which words are refused (R93). -/
theorem refusedWord_congr (hcfg : a.cfg = b.cfg) (hexp : w.toNat % 8 = 4 → a.exp = b.exp) (hr : ¬ RefusedWord a w) :
    ¬ RefusedWord b w := by
  unfold RefusedWord at *
  rw [← hcfg]
  by_cases h4 : w.toNat % 8 = 4
  · rwa [← hexp h4]
  · omega

/-- What a CALL or XFER word awaits depends on its operands alone (R121). -/
theorem awaited_issued (hop : w.toNat % 8 = 4 ∧ a.exp = b.exp ∨ w.toNat % 8 = 5) :
    awaited { a with cmd := w } = awaited { b with cmd := w } := by
  obtain ⟨-, he⟩ | hop := hop
  · exact awaited_congr rfl he
  · have ht (s : State) : isTransfer { s with cmd := w } = true := beq_iff_eq.mpr hop
    rw [awaited, awaited, if_pos (ht a), if_pos (ht b)]; rfl

/-- What a CALL or XFER word sends depends on its operands alone (R120, R126). -/
theorem exchangePayload_congr (hwa : a.wf = true) (hwb : b.wf = true) (hcfg : a.cfg = b.cfg) (hr : ¬ RefusedWord a w)
    (hop : w.toNat % 8 = 4 ∧ a.plen = b.plen ∧ firstBits a.plen.toNat a.pay = firstBits a.plen.toNat b.pay ∨
      w.toNat % 8 = 5 ∧ firstBits (w.toNat / 16 % 16) a.val = firstBits (w.toNat / 16 % 16) b.val) :
    exchangePayload w a = exchangePayload w b := by
  unfold exchangePayload
  obtain ⟨hop, hplen, hpay⟩ | ⟨hop, hval⟩ := hop
  · rw [if_pos hop, if_pos hop, payloadOperand_eq hwa, payloadOperand_eq hwb, ← hplen, hpay]
  · have hn : (cmdFields w).nv.toNat ≤ a.cfg.maxValues.val := by
      rw [cmdFields_nv_toNat]; unfold RefusedWord at hr; omega
    rw [← cmdFields_nv_toNat] at hval
    rw [if_neg (by omega), if_neg (by omega), packedOperand_eq hwa hn, packedOperand_eq hwb (hcfg ▸ hn), floatPayload,
      floatPayload, hval]

/-- Alike ends have the same RLEN and reply. -/
theorem EndAlike.reply_eq (h : EndAlike x t y u) (haw : awaited x = awaited y) :
    t.rlen = u.rlen ∧ t.rbuf.take t.rlen.toNat = u.rbuf.take u.rlen.toNat := by
  obtain ⟨reply, _, _, hlen, ⟨htb, htl, -⟩, ⟨hub, hul, -⟩⟩ := h.leaves
  rw [htl, hul, ← haw, ← hlen, htb.take_eq, hub.take_eq]
  exact ⟨BitVec.eq_of_toNat_eq (htl.trans (haw.trans hul.symm)), rfl⟩

/-- And the same OK and STATUS. -/
theorem EndAlike.flags_eq (h : EndAlike x t y u) : t.ok = u.ok ∧ t.status = u.status := by
  obtain ⟨_, _, _, -, ⟨-, -, -, hto, hts, -⟩, ⟨-, -, -, huo, hus, -⟩⟩ := h.leaves
  exact ⟨hto.trans huo.symm, hts.trans hus.symm⟩

/-- And two XFERs the same values. -/
theorem EndAlike.values_eq (h : EndAlike x t y u) (hx : isTransfer x = true) (hy : isTransfer y = true) :
    t.val.take (arity x) = u.val.take (arity x) := by
  obtain ⟨reply, done, _, -, ⟨-, -, htv, -⟩, ⟨-, -, huv, -⟩⟩ := h.leaves
  rw [if_pos hx] at htv
  rw [if_pos hy] at huv
  rw [← exchangeValues_length done reply (arity x), htv.take_eq, huv.take_eq]

/-- Settles O45: both runs send the same frame and take the same branch of the exchange. -/
theorem exchangeResultsDependOnOperandsAndTransportOnly :
    Obligations.ExchangeResultsDependOnOperandsAndTransportOnly := by
  intro w a b hwa hwb hba hbb hcfg hia hib hconn hans hdraws hrxq hra hop
  have hcases : w.toNat % 8 = 4 ∨ w.toNat % 8 = 5 := hop.imp And.left And.left
  have hrb : ¬ RefusedWord b w := refusedWord_congr hcfg (fun h4 => (hop.resolve_right (by omega)).2.1) hra
  have hframe : exchangeFrame w b = exchangeFrame w a := by
    rw [exchangeFrame, exchangeFrame, hcfg,
      exchangePayload_congr hwa hwb hcfg hra (hop.imp (fun h => ⟨h.1, h.2.2⟩) id)]
  have haw : awaited { a with cmd := w } = awaited { b with cmd := w } :=
    awaited_issued (hop.imp (fun h => ⟨h.1, h.2.1⟩) And.left)
  have hdraw (k : Nat) : b.drawAt k = a.drawAt k := State.drawAt_congr hans.symm hdraws.symm k
  obtain ⟨t, hrt, htr⟩ := runFrom_issue hwa hba hia nofun hra hcases
  obtain ⟨u, hru, hur⟩ := runFrom_issue hwb hbb hib nofun hrb hcases
  have hends := hur.ends
  rw [hframe, hdraw, hdraw, hdraw] at hends
  have halike := exchangeEnds_alike (x := { a with cmd := w }) (y := { b with cmd := w }) hconn hrxq haw rfl
    htr.ends hends
  obtain ⟨gained, htx, hux⟩ := halike.txs
  obtain ⟨hrlen, hrbuf⟩ := halike.reply_eq haw
  obtain ⟨hok, hstatus⟩ := halike.flags_eq
  exact ⟨t, u, gained, hrt, hru, htx, hux, halike.rxq, halike.conn, hrlen, hrbuf, hok, hstatus, fun h5 =>
    halike.values_eq (beq_iff_eq.mpr h5) (beq_iff_eq.mpr h5)⟩

/-! O46. -/

section
variable {frame : List Byte} {d1 d2 d3 : Draw}

/-- The short branch of `ExchangeEnds`. -/
theorem exchangeEnds_short (hc : s.conn = true) (h1 : d1.fault = false) (h2 : d2.fault = false) (h3 : d3.fault = false)
    (hlt : s.rxq.length < awaited s) (h : ExchangeEnds frame d1 d2 d3 s t) :
    Failed .shortRead s t ∧ t.txs = s.txs ++ frame ∧ t.rxq = s.rxq.drop (min (awaited s) d3.got) ∧ t.conn = true ∧
      t.answers = s.answers.drop 3 := by
  rwa [ExchangeEnds, if_neg (by simp [hc]), if_neg (by simp [h1]), if_neg (by simp [h2]), if_neg (by omega),
    if_neg (by simp [h3]), if_neg (by omega)] at h

/-- Its full branch. -/
theorem exchangeEnds_full (hc : s.conn = true) (h1 : d1.fault = false) (h2 : d2.fault = false) (h3 : d3.fault = false)
    (h0 : awaited s ≠ 0) (hgot : awaited s ≤ d3.got) (hlen : awaited s ≤ s.rxq.length)
    (h : ExchangeEnds frame d1 d2 d3 s t) :
    Succeeded (s.rxq.take (awaited s)) s t ∧ t.txs = s.txs ++ frame ∧ t.rxq = s.rxq.drop (awaited s) ∧
      t.conn = true ∧ t.answers = s.answers.drop 3 := by
  rwa [ExchangeEnds, if_neg (by simp [hc]), if_neg (by simp [h1]), if_neg (by simp [h2]), if_neg h0,
    if_neg (by simp [h3]), if_pos ⟨hgot, hlen⟩] at h

end

/-- The first `n` values are those of the first `4 * n` bytes. -/
theorem valuesIn_take (bytes : List Byte) (n : Nat) : valuesIn (bytes.take (4 * n)) n = valuesIn bytes n := by
  refine List.map_congr_left fun i hi => ?_
  have hi := List.mem_range.mp hi
  have hget {k : Nat} (hk : k < 4 * n) : (bytes.take (4 * n)).getD k 0 = bytes.getD k 0 := by
    rw [List.getD_eq_getElem?_getD, List.getD_eq_getElem?_getD, List.getElem?_take_of_lt hk]
  rw [valueAt, valueAt, hget (by omega), hget (by omega), hget (by omega), hget (by omega)]

/-- An XFER whose answers are ok and whose reply is whole has taken the values at the head of RXQ (R120, R126). -/
theorem issueRun_full {rest : List Input} {d1 d2 d3 : Draw} {more : List Draw}
    (h : IssueRun (commandWord 0 5 f) s rest t) (hc : s.conn = true) (ha : s.answers = d1 :: d2 :: d3 :: more)
    (hok : ∀ d ∈ [d1, d2, d3], d.fault = false) (h0 : f.ar ≠ 0) (hgot : 4 * f.ar.toNat ≤ d3.got)
    (hlen : 4 * f.ar.toNat ≤ s.rxq.length) :
    t.ok = true ∧ t.status = .ok ∧ firstBits f.ar.toNat t.val = valuesIn s.rxq f.ar.toNat ∧
      t.rxq = s.rxq.drop (4 * f.ar.toNat) := by
  obtain ⟨rfl, rfl, rfl⟩ := drawAt_of_answers ha
  have haw : awaited { s with cmd := commandWord 0 5 f } = 4 * f.ar.toNat := awaited_xfer rfl
  have har : arity { s with cmd := commandWord 0 5 f } = f.ar.toNat := arity_commandWord (op := 5) rfl
  have h0 : f.ar.toNat ≠ 0 := fun h => h0 (BitVec.eq_of_toNat_eq h)
  obtain ⟨⟨-, -, hval, hdone, hstatus, -⟩, -, hrxq, -⟩ := exchangeEnds_full
    (s := { s with cmd := commandWord 0 5 f }) hc (hok _ (by simp)) (hok _ (by simp)) (hok _ (by simp)) (by omega)
    (by omega) (by rw [haw]; exact hlen) h.ends
  rw [if_pos (isTransfer_xfer rfl), haw, har, valuesIn_take] at hval
  rw [haw] at hrxq
  refine ⟨hdone, hstatus, firstBits_of_take ?_, hrxq⟩
  have := hval.take_eq
  rwa [valuesIn_length] at this

/-- An XFER whose read empties RXQ and is short has failed, its answers used up (R120 step 4, R150). -/
theorem issueRun_short {rest : List Input} {d1 d2 d3 : Draw} {more : List Draw}
    (h : IssueRun (commandWord 0 5 f) s rest t) (hc : s.conn = true) (ha : s.answers = d1 :: d2 :: d3 :: more)
    (hok : ∀ d ∈ [d1, d2, d3], d.fault = false) (hlt : s.rxq.length < 4 * f.ar.toNat) (hgot : s.rxq.length ≤ d3.got) :
    t.ok = false ∧ t.status = .shortRead ∧ t.rxq = [] ∧ t.conn = true ∧ t.answers = more ∧ t.busy = false := by
  obtain ⟨rfl, rfl, rfl⟩ := drawAt_of_answers ha
  have haw : awaited { s with cmd := commandWord 0 5 f } = 4 * f.ar.toNat := awaited_xfer rfl
  obtain ⟨⟨-, -, -, hdone, hstatus, hbusy, -⟩, -, hrxq, hconn, hans⟩ := exchangeEnds_short
    (s := { s with cmd := commandWord 0 5 f }) hc (hok _ (by simp)) (hok _ (by simp)) (hok _ (by simp))
    (by rw [haw]; exact hlt) h.ends
  refine ⟨hdone, hstatus, hrxq.trans (List.drop_eq_nil_of_le ?_), hconn, hans.trans (by simp [ha]), hbusy⟩
  rw [haw]; show s.rxq.length ≤ _; omega

/-- Settles O46: the first XFER ends in the short branch with RXQ empty, the second in the full branch on the late
bytes. -/
theorem lateBytesBecomeTheNextReply : Obligations.LateBytesBecomeTheNextReply := by
  intro s f g late d1 d2 d3 d4 d5 d6 rest hw hb hc hi hfn hfa hgn hga hg0 ha hok hlt hgot hlate hgot6
  obtain ⟨m, hrun, hm⟩ := runFrom_issue hw hb hi (by simp) (xfer_not_refused hfn hfa) (.inr (xferWord_mod f))
  obtain ⟨hmok, hmstatus, hmrxq, hmconn, hmans, hmbusy⟩ :=
    issueRun_short hm hc ha (fun d hd => hok d (by simp at hd ⊢; tauto)) hlt hgot
  have hmcfg : m.cfg = s.cfg := by rw [hm.setup]
  have hmin : m.inputs = [.arrive late, .write 0x000 (commandWord 0 5 g)] := by rw [hm.setup]; rfl
  have hstep := arrivingBytesRaiseNothing m late _ hmin
  have hwm := step_wf (runFrom_wf hw hrun) hstep
  obtain ⟨t, hrun', ht⟩ := runFrom_issue hwm hmbusy rfl nofun (xfer_not_refused (hmcfg ▸ hgn) (hmcfg ▸ hga))
    (.inr (xferWord_mod g))
  obtain ⟨htok, htstatus, htval, htrxq⟩ := issueRun_full ht hmconn hmans (fun d hd => hok d (by simp at hd ⊢; tauto))
    hg0 hgot6 (by simp [hmrxq, hlate])
  simp only [hmrxq, List.nil_append] at htval htrxq
  exact ⟨m, t, hrun, hmok, hmstatus, hmrxq, (runFrom_add hrun 5).trans ((runFrom_succ hstep).trans hrun'), htok,
    htstatus, htval, htrxq⟩

/-! O43. -/

theorem overwrite_overwrite {α : Type} : ∀ old new : List α, overwrite (overwrite old new) new = overwrite old new
  | [], [] => rfl
  | _ :: _, [] => rfl
  | [], _ :: _ => rfl
  | _ :: old, _ :: new => congrArg _ (overwrite_overwrite old new)

theorem exec_xfer_issued (hb : s.busy = false) (hn : f.nv.toNat ≤ s.cfg.maxValues.val)
    (ha : f.ar.toNat ≤ s.cfg.maxValues.val) : exec (.xfer f) s = .next (issued (commandWord 0 5 f) s) := by
  have hop := xferWord_mod f
  rw [← issued_eq, exchangePayload, if_neg (by omega), cmdFields_commandWord_zero]
  exact execXfer_idle hb hn ha

theorem exec_call_issued (hb : s.busy = false) (he : s.exp.toNat ≤ s.cfg.rxMax) :
    exec (.call f) s = .next (issued (commandWord 0 4 f) s) := by
  rw [← issued_eq, exchangePayload, if_pos (callWord_mod f), cmdFields_commandWord_zero]
  exact execCall_idle hb he

/-- The payload stands in FRM from offset 3 on (R80). -/
theorem HoldsFrame.payload_eq {c : Config} {opc : Byte} {p : List Byte} (h : HoldsFrame (wireFrame c opc p) t) :
    (t.frm.drop 3).take (t.flen.toNat - 4) = p ∧ t.flen.toNat - 4 = p.length := by
  obtain ⟨hfrm, hflen⟩ := h
  rw [wireFrame_length] at hfrm hflen
  have hn : t.flen.toNat - 4 = p.length := by omega
  refine ⟨?_, hn⟩
  calc (t.frm.drop 3).take (t.flen.toNat - 4)
      = ((t.frm.take (4 + p.length)).drop 3).take p.length := by
        rw [hn, List.drop_take, List.take_take, Nat.min_eq_left (by omega)]
    _ = (p ++ [BitVec.ofNat 8 (total ([c.startByte, opc, BitVec.ofNat 8 p.length] ++ p) % 256)]).take p.length := by
        rw [hfrm]; rfl
    _ = p := List.take_left' rfl

/-- The state after ENCF (R105). -/
def encoded (f : CmdFields) (s : State) : State :=
  succeed (framed f.opc (packedOperand f s) (s.setCmd (commandWord 0 2 f)))

/-- The host's copy between ENCF and CALL: the payload to PAY and PLEN, the reply's size to EXP (R128). -/
def copied (f : CmdFields) (s : State) : State :=
  { s with
    pay := ((s.frm.drop 3).take (s.flen.toNat - 4)).map Slot.put ++ s.pay.drop (s.flen.toNat - 4)
    plen := BitVec.ofNat 8 (s.flen.toNat - 4)
    exp := BitVec.ofNat 8 (4 * f.ar.toNat) }

/-- The host's copy takes the payload out of the frame. -/
theorem copied_payload {c : Config} {opc : Byte} {p : List Byte} (h : HoldsFrame (wireFrame c opc p) s)
    (hp : p.length ≤ 255) (hpay : s.pay.length = 255) :
    payloadOperand (copied f s) = p ∧ (copied f s).pay.length = s.pay.length := by
  obtain ⟨htake, hn⟩ := h.payload_eq
  have heq : (copied f s).pay = p.map Slot.put ++ s.pay.drop p.length := by rw [copied, htake, hn]
  refine ⟨payloadOperand_loaded (s := s) hp heq (congrArg (BitVec.ofNat 8) hn), ?_⟩
  rw [heq, List.length_append, List.length_map, List.length_drop]
  omega

/-- The CALL after ENCF and the copy starts in a state that meets the invariant, with the same frame as the XFER. -/
theorem copied_encoded (hw : s.wf = true) (hb : s.busy = false) :
    (copied f (encoded f s)).wf = true ∧ payloadOperand (copied f (encoded f s)) = packedOperand f s := by
  have hwe : (encoded f s).wf = true := State.wf_succeed_framed hw hb f.opc (packedOperand_length_le f s) _
  obtain ⟨hpay, -⟩ := (State.wf_iff (encoded f s)).mp hwe
  obtain ⟨hp, hlen⟩ := copied_payload (f := f) (s := encoded f s) (packed_holdsFrame hw f (commandWord 0 2 f))
    (packedOperand_length_le f s) hpay
  exact ⟨State.wf_of_idle hwe rfl hlen rfl rfl rfl rfl rfl hb (State.wf_idle (s := s) hw hb), hp⟩

/-- FRM and FLEN are the XFER's own. -/
theorem issued_copied_frame (hw : s.wf = true) (hb : s.busy = false) :
    (issued (commandWord 0 4 f) (copied f (encoded f s))).frm = (issued (commandWord 0 5 f) s).frm ∧
    (issued (commandWord 0 4 f) (copied f (encoded f s))).flen = (issued (commandWord 0 5 f) s).flen := by
  have hp := (copied_encoded (f := f) hw hb).2
  have hc : exchangePayload (commandWord 0 4 f) (copied f (encoded f s)) = packedOperand f s := by
    rw [exchangePayload, if_pos (callWord_mod f), hp]
  have hx : exchangePayload (commandWord 0 5 f) s = packedOperand f s := by
    have := xferWord_mod f
    rw [exchangePayload, if_neg (by omega), cmdFields_commandWord_zero]
  have hfrm : (copied f (encoded f s)).frm = overwrite s.frm (wireFrame s.cfg f.opc (packedOperand f s)) := by
    rw [← frameHead_cksum8_eq_wireFrame]; rfl
  have hcfg : (copied f (encoded f s)).cfg = s.cfg := rfl
  refine ⟨?_, by rw [issued, issued, hc, hx]⟩
  rw [issued, issued, exchangeFrame, exchangeFrame, hc, hx, cmdFields_commandWord_zero, cmdFields_commandWord_zero,
    hfrm, hcfg, overwrite_overwrite]

/-- EXP holds the XFER's reply size, which is in range. -/
theorem copied_exp (ha : f.ar.toNat ≤ s.cfg.maxValues.val) :
    (copied f (encoded f s)).exp.toNat = 4 * f.ar.toNat ∧
      (copied f (encoded f s)).exp.toNat ≤ (copied f (encoded f s)).cfg.rxMax := by
  have hexp : (copied f (encoded f s)).exp.toNat = 4 * f.ar.toNat := by
    have := f.ar.isLt
    rw [copied, BitVec.toNat_ofNat]; omega
  have hmax : (copied f (encoded f s)).cfg.rxMax = 4 * s.cfg.maxValues.val := rfl
  exact ⟨hexp, by omega⟩

/-- So the CALL awaits what the XFER awaits. -/
theorem awaited_copied (ha : f.ar.toNat ≤ s.cfg.maxValues.val) :
    awaited (issued (commandWord 0 4 f) (copied f (encoded f s))) = 4 * f.ar.toNat :=
  (awaited_call rfl).trans (copied_exp ha).1

/-- The XFER and the CALL after ENCF and the copy send one frame under one transport, and end alike. -/
theorem xfer_copied_alike (hw : s.wf = true) (hb : s.busy = false) (hi : s.inputs = [])
    (hn : f.nv.toNat ≤ s.cfg.maxValues.val) (ha : f.ar.toNat ≤ s.cfg.maxValues.val) :
    ∃ t u, runFrom 3 (issued (commandWord 0 5 f) s) = .next t ∧
      runFrom 3 (issued (commandWord 0 4 f) (copied f (encoded f s))) = .next u ∧ u.wf = true ∧
      EndAlike (issued (commandWord 0 5 f) s) t (issued (commandWord 0 4 f) (copied f (encoded f s))) u ∧
      SameSetup (issued (commandWord 0 5 f) s) t ∧
      SameSetup (issued (commandWord 0 4 f) (copied f (encoded f s))) u := by
  obtain ⟨hwc, -⟩ := copied_encoded (f := f) hw hb
  have he := (copied_exp (s := s) ha).2
  obtain ⟨hfrm, hflen⟩ := issued_copied_frame (f := f) hw hb
  have hwx := issued_wf hw (xfer_not_refused hn ha) (.inr (xferWord_mod f))
  have hwy := issued_wf hwc (call_not_refused he) (.inl (callWord_mod f))
  have haw : awaited (issued (commandWord 0 5 f) s) = awaited (issued (commandWord 0 4 f) (copied f (encoded f s))) :=
    (awaited_xfer rfl).trans (awaited_copied ha).symm
  have har : arity (issued (commandWord 0 5 f) s) = arity (issued (commandWord 0 4 f) (copied f (encoded f s))) :=
    (arity_commandWord (op := 5) rfl).trans (arity_commandWord (op := 4) rfl).symm
  have hdraw (k : Nat) : (issued (commandWord 0 4 f) (copied f (encoded f s))).drawAt k =
      (issued (commandWord 0 5 f) s).drawAt k :=
    State.drawAt_congr (t := issued _ (copied f (encoded f s))) (s := issued _ s) rfl rfl k
  obtain ⟨t, hrt, ht⟩ := runFrom_exchange hwx rfl (State.blockNext_nil hi)
  obtain ⟨u, hru, hu⟩ := runFrom_exchange hwy rfl (State.blockNext_nil hi)
  have hends := hu.ends
  rw [frameOperand, hfrm, hflen, hdraw, hdraw, hdraw] at hends
  exact ⟨t, u, hrt, hru, runFrom_wf hwy hru, exchangeEnds_alike rfl rfl haw har ht.ends hends, ht.setup, hu.setup⟩

/-- DECF after a CALL that succeeded, else the host's zeros, leave in VAL what the XFER leaves there (R128). -/
theorem decf_or_zeros (hu : Leaves reply (exchangeValues done reply f.ar.toNat) done code y u) (hw : u.wf = true)
    (hlen : reply.length = 4 * f.ar.toNat) (haw : awaited y = 4 * f.ar.toNat) (hy : isTransfer y = false)
    (ha : f.ar.toNat ≤ u.cfg.maxValues.val) :
    ∃ v, (u.ok = true → exec (.decf f) u = .next v) ∧
      (u.ok = false → v = { u with val := List.replicate f.ar.toNat (Slot.put 0) ++ u.val.drop f.ar.toNat }) ∧
      Overwritten (exchangeValues done reply f.ar.toNat) y.val v.val ∧
      v.ok = u.ok ∧ v = { u with cmd := v.cmd, val := v.val, ok := v.ok, status := v.status } := by
  obtain ⟨hrbuf, hrlen, hval, hok, -, hbusy, -⟩ := hu
  rw [if_neg (by simp [hy])] at hval
  obtain ⟨-, hvlen, -⟩ := (State.wf_iff u).mp hw
  cases done with
  | false =>
    refine ⟨_, by simp [hok], fun _ => rfl, ?_, rfl, rfl⟩
    rw [hval, Overwritten, exchangeValues, if_neg (by simp), List.map_replicate, List.length_replicate]
  | true =>
    have hraw : rawOperand f u = reply := by
      rw [rawOperand_eq hw ha, ← hlen]; exact firstBits_of_take hrbuf.take_eq
    have hput := putValues_overwritten (vs := valuesIn reply f.ar.toNat) (s := u.setCmd (commandWord 0 3 f))
      (by rw [valuesIn_length, State.setCmd_val]; omega)
    refine ⟨_, fun _ => execDecf_match hbusy ha (hrlen.trans haw), by simp [hok], ?_, hok.symm, rfl⟩
    rw [hraw, wordsOf_eq_valuesIn _ _ hlen, ← hval]; exact hput

/-- Settles O43: both exchanges send the frame of ENCF under the same transport, so they end alike; DECF or the zeros
then put into VAL what the XFER put there. -/
theorem xferIsEncfCallDecf : Obligations.XferIsEncfCallDecf := by
  intro s a b1 b2 b3 f hw hb hi hn ha hxfer hencf hb2 hcall
  cases (exec_xfer_issued hb hn ha).symm.trans hxfer
  cases (execEncf_idle hb hn).symm.trans hencf
  have hb2 : b2 = copied f (encoded f s) := hb2
  subst hb2
  have he := (copied_exp (s := s) ha).2
  cases (exec_call_issued (s := copied f (encoded f s)) hb he).symm.trans hcall
  obtain ⟨hfrm, hflen⟩ := issued_copied_frame (f := f) hw hb
  obtain ⟨t, u, hrt, hru, hwu, halike, hts, hus⟩ := xfer_copied_alike hw hb hi hn ha
  obtain ⟨gained, htx, hux⟩ := halike.txs
  obtain ⟨reply, done, code, hlen, hlt, hlu⟩ := halike.leaves
  rw [arity_commandWord (op := 5) (f := f) rfl] at hlt hlu
  rw [SameSetup] at hts hus
  have hlen : reply.length = 4 * f.ar.toNat := hlen.trans (awaited_xfer rfl)
  have hyw := awaited_copied (s := s) ha
  obtain ⟨v, hok, hfail, hval, hvok, hv⟩ :=
    decf_or_zeros hlu hwu hlen hyw (isTransfer_call rfl) (by rw [hus]; exact ha)
  obtain ⟨htb, htl, htv, hto, -⟩ := hlt
  obtain ⟨hub, hul, -, huo, -⟩ := hlu
  rw [if_pos (isTransfer_xfer rfl)] at htv
  refine ⟨t, u, v, hrt, hru, hok, hfail, ?_, ?_, ?_, htv.trans hval.symm, ?_, ?_,
    hto.trans (huo.symm.trans hvok.symm), ?_, ?_⟩
  · rw [hv]; exact htx.trans hux.symm
  · rw [hv]; exact halike.rxq
  · rw [hv]; exact halike.conn
  · rw [hv]; exact htb.trans hub.symm
  · rw [hv]; exact (halike.reply_eq (by rw [hyw]; exact awaited_xfer rfl)).1
  · rw [hv, hts, hus]; exact hfrm.symm
  · rw [hv, hts, hus]; exact hflen.symm

end Sys2Proof.Claims
end

section
/-! PROOFS. The end of a run and what it shows (70_reset R186), the host's duties (R188): obligations O59 and O60. -/

namespace Sys2Proof.Machine

open Claims

variable {s m t : State} {w : Word} {i : Input} {r : HostReg} {offset k : Nat} {v : Word} {rest : List Input}
  {last : Option OpResult}

/-! The end of a run. -/

theorem issues_iff : i.issues = true ↔ ∃ w, i = .write 0x000 w := by
  cases i <;> simp [Input.issues]

/-- A run is over at BUSY = 0 with no write to CMD still to land (R186). -/
theorem runOver_iff (hw : s.wf = true) : s.runOver = true ↔ s.busy = false ∧ ∀ w, Input.write 0x000 w ∉ s.inputs := by
  have hidle : s.busy = false → s.phase = .idle := State.wf_idle hw
  have hnone : (s.inputs.all fun i => !i.issues) = true ↔ ∀ w, Input.write 0x000 w ∉ s.inputs := by
    simp only [List.all_eq_true, Bool.not_eq_true', ← Bool.not_eq_true, issues_iff, not_exists]
    exact ⟨fun h w hmem => h _ hmem w rfl, fun h i hmem w hi => h w (hi ▸ hmem)⟩
  rw [State.runOver, Bool.and_eq_true, Bool.and_eq_true, hnone, Bool.not_eq_true', decide_eq_true_eq]
  exact ⟨fun h => ⟨h.1.1, h.2⟩, fun h => ⟨⟨h.1, hidle h.1⟩, h.2⟩⟩

/-- An exchange in flight shows its one result when it ends. -/
theorem observe_exchange (hw : s.wf = true) (hi : s.inputs = []) (hb : s.busy = true) (hrun : runFrom k s = .next t)
    (ht : t.busy = false) : observe k s = { sent := t.txs, results := [resultOf t] } := by
  induction k generalizing s with
  | zero => cases hrun; simp [hb] at ht
  | succ k ih =>
    obtain ⟨m, hm⟩ := advance_next hw
    have hbt := blockTurn_of_advance hm
    have hmi := (blockTurn_setup hbt).2.trans hi
    have hstep := (step_block hi).trans hm
    rw [runFrom_succ hstep] at hrun
    rw [observe_next hstep, completes_block hi, hb]
    cases hmb : m.busy with
    | true => rw [ih (hbt.wf hw) hmi hmb hrun]; rfl
    | false =>
      have hidle := State.wf_idle (hbt.wf hw) hmb
      rw [runFrom_idle hidle (State.blockNext_nil hmi), hmi, List.drop_nil, ← hmi] at hrun
      cases hrun
      rw [observe_idle hmi hidle hmb]; rfl

/-- One operation, from the host's write to CMD to its end, shows its one result. -/
theorem observe_word (hb : s.busy = false) (hi : s.inputs = [.write 0x000 w]) (hstep : step s = .next m)
    (hw : m.wf = true) (hmi : m.inputs = []) (hrun : runFrom k m = .next t) (ht : t.busy = false) :
    observe (k + 1) s = { sent := t.txs, results := [resultOf t] } := by
  rw [observe_next hstep, completes_issue hi rfl, hb]
  cases hmb : m.busy with
  | true => rw [observe_exchange hw hmi hmb hrun ht]; rfl
  | false =>
    have hidle := State.wf_idle hw hmb
    rw [runFrom_idle hidle (State.blockNext_nil hmi), hmi, List.drop_nil, ← hmi] at hrun
    cases hrun
    rw [observe_idle hmi hidle hmb]; rfl

/-- What is left when the one operation of a run is over. -/
structure OperationOver (w : Word) (s t : State) : Prop where
  cmd : t.cmd = w
  busy : t.busy = false
  inputs : t.inputs = []
  cfg : t.cfg = s.cfg
  status : t.status = .refused ↔ RefusedWord s w
  rlen : ¬ RefusedWord s w → w.toNat % 8 = 4 ∨ w.toNat % 8 = 5 → t.rlen.toNat ≤ s.cfg.rxMax
  shown : observe 4 s = { sent := t.txs, results := [resultOf t] }

/-- A word that completes where it lands: refused, or one of the codec's. -/
theorem operationOver_of_step (hw : s.wf = true) (hb : s.busy = false) (hi : s.inputs = [.write 0x000 w])
    (hstep : step s = .next t) (hcmd : t.cmd = w) (htb : t.busy = false) (hti : t.inputs = []) (hcfg : t.cfg = s.cfg)
    (hst : t.status = .refused ↔ RefusedWord s w) (hop : RefusedWord s w ∨ ¬ (w.toNat % 8 = 4 ∨ w.toNat % 8 = 5)) :
    ∃ t, runFrom 4 s = .next t ∧ OperationOver w s t := by
  have hwt := step_wf hw hstep
  have hidle : runFrom 3 t = .next t := by
    rw [runFrom_idle (State.wf_idle hwt htb) (State.blockNext_nil hti), hti, List.drop_nil, ← hti]; rfl
  exact ⟨t, (runFrom_succ hstep).trans hidle, hcmd, htb, hti, hcfg, hst, fun hr h45 => (hop.elim hr (absurd h45)).elim,
    observe_word hb hi hstep hwt hti hidle htb⟩

/-- A CALL or XFER is over when its exchange has ended. -/
theorem operationOver_of_issue (hw : s.wf = true) (hb : s.busy = false) (hi : s.inputs = [.write 0x000 w])
    (hr : ¬ RefusedWord s w) (hop : w.toNat % 8 = 4 ∨ w.toNat % 8 = 5) :
    ∃ t, runFrom 4 s = .next t ∧ OperationOver w s t := by
  obtain ⟨t, hrun, ht⟩ := runFrom_issue hw hb hi nofun hr hop
  have hstep := step_issued hb hi hr hop
  have hover := ht.ends.over
  have hst : t.status ≠ .refused := by
    obtain ⟨code, hf, hc⟩ | ⟨r, hs, -⟩ := ht.ends.outcome
    · obtain ⟨-, -, -, -, hst, -⟩ := hf; rwa [hst]
    · obtain ⟨-, -, -, -, hst, -⟩ := hs; rw [hst]; nofun
  have hset := ht.setup
  have hrun' := hrun
  rw [runFrom_succ hstep] at hrun'
  exact ⟨t, hrun, by rw [hset], hover.busy, by rw [hset]; rfl, by rw [hset], iff_of_false hst hr,
    fun _ _ => hover.rlen.trans_le (awaited_in_range (s := { s with cmd := w }) hr hop).1,
    observe_word hb hi hstep (step_wf hw hstep) rfl hrun' hover.busy⟩

/-- A run of one operation is over within four steps, whatever word it is. -/
theorem runFrom_operation (hw : s.wf = true) (hb : s.busy = false) (hi : s.inputs = [.write 0x000 w]) :
    ∃ t, runFrom 4 s = .next t ∧ OperationOver w s t := by
  have hland : step s = exec (decodeWord w) (s.setInputs []) := by
    rw [step_input hi]; exact hostWrite_idle (s := s.setInputs []) regAt_cmd hb
  by_cases hr : RefusedWord s w
  · have hx := (refuses_decodeWord (s := s.setInputs []) hr).exec_eq hb
    exact operationOver_of_step hw hb hi (hland.trans hx) rfl hb rfl rfl (iff_of_true rfl hr) (.inl hr)
  by_cases hop : w.toNat % 8 = 4 ∨ w.toNat % 8 = 5
  · exact operationOver_of_issue hw hb hi hr hop
  obtain ⟨t, ht, hx⟩ := exec_decodeWord_executes (s := s.setInputs []) hb hr
  have hover (hcmd : t.cmd = w) htb hti hcfg (hst : t.status ≠ .refused) :=
    operationOver_of_step hw hb hi (hland.trans ht) hcmd htb hti hcfg (iff_of_false hst hr) (.inr hop)
  cases hx with
  | encode => exact hover rfl hb rfl rfl nofun
  | encf => exact hover rfl hb rfl rfl nofun
  | decfMatch => exact hover rfl hb rfl rfl nofun
  | decfMismatch => exact hover rfl hb rfl rfl nofun
  | call h => exact absurd (.inl h) hop
  | xfer h => exact absurd (.inr h) hop

/-! The host's duties. -/

theorem dutiful_write (hi : s.inputs = .write offset v :: rest) (hr : regAt s.cfg offset = some r) :
    s.dutiful last = (!s.busy && if r = .cmd then issueDutiful (decodeWord v) s else r.loadable) := by
  simp only [State.dutiful, hi, Input.dutiful, hr]

theorem dutiful_issue (hi : s.inputs = .write 0x000 v :: rest) :
    s.dutiful last = (!s.busy && issueDutiful (decodeWord v) s) := by
  rw [dutiful_write hi regAt_cmd, if_pos rfl]

theorem dutiful_read (hi : s.inputs = .read offset :: rest) (hr : regAt s.cfg offset = some r) (hstat : r ≠ .stat) :
    s.dutiful last = (!s.busy && r.collectable last) := by
  simp only [State.dutiful, hi, Input.dutiful, hr, if_neg hstat]

/-- A dutiful access is at a listed offset. -/
theorem dutiful_listed (hi : s.inputs = .write offset v :: rest ∨ s.inputs = .read offset :: rest)
    (hl : ¬ ListedOffset s.cfg offset) : s.dutiful last = false := by
  obtain hi | hi := hi <;> simp only [State.dutiful, hi, Input.dutiful, regAt_none_iff.mpr hl]

/-- A dutiful write is not to a read-only register. -/
theorem dutiful_readOnly (hi : s.inputs = .write offset v :: rest) (h : ReadOnlyOffset offset) :
    s.dutiful last = false := by
  obtain ⟨r, hr, hcmd, hload⟩ : ∃ r, regAt s.cfg offset = some r ∧ r ≠ .cmd ∧ r.loadable = false := by
    obtain rfl | rfl | ⟨i, hlt, rfl⟩ := h
    · exact ⟨_, regAt_stat, nofun, rfl⟩
    · exact ⟨_, regAt_flen, nofun, rfl⟩
    · exact ⟨_, regAt_frm hlt, nofun, rfl⟩
  rw [dutiful_write hi hr, if_neg hcmd, hload, Bool.and_false]

/-- A dutiful move of the link is made while BUSY = 0. -/
theorem dutiful_connect {l : Link} (hi : s.inputs = .connect l :: rest) : s.dutiful last = !s.busy := by
  simp only [State.dutiful, hi, Input.dutiful]

theorem dutiful_disconnect (hi : s.inputs = .disconnect :: rest) : s.dutiful last = !s.busy := by
  simp only [State.dutiful, hi, Input.dutiful]

/-- A dutiful step is not stopped. -/
theorem step_of_dutiful (hw : s.wf = true) (hd : s.dutiful last = true) : ∃ t, step s = .next t := by
  obtain hnext | ⟨o, v, rest, hi, hl, -⟩ | ⟨o, rest, hi, hl, -⟩ | ⟨o, v, rest, hi, hro, -⟩ | ⟨l, rest, hi, hb, -⟩ |
    ⟨rest, hi, hb, -⟩ := stepsStopOnlyOnAHostBreach s hw
  · exact hnext
  · rw [dutiful_listed (.inl hi) hl] at hd; cases hd
  · rw [dutiful_listed (v := 0) (.inr hi) hl] at hd; cases hd
  · rw [dutiful_readOnly hi hro] at hd; cases hd
  · rw [dutiful_connect hi, hb] at hd; cases hd
  · rw [dutiful_disconnect hi, hb] at hd; cases hd

/-- Nor is a dutiful run. -/
theorem runFrom_of_dutifulRun (hw : s.wf = true) (hd : dutifulRun k last s = true) : ∃ t, runFrom k s = .next t := by
  induction k generalizing s last with
  | zero => exact ⟨s, rfl⟩
  | succ k ih =>
    rw [dutifulRun, Bool.and_eq_true] at hd
    obtain ⟨m, hm⟩ := step_of_dutiful hw hd.1
    obtain ⟨-, hd⟩ := hd
    rw [hm] at hd
    rw [runFrom_succ hm]
    exact ih (step_wf hw hm) hd

/-- A CALL or XFER that is not refused is a breach before the first connect (R172). -/
theorem issueDutiful_unlinked (hl : s.link = none) (hop : w.toNat % 8 = 4 ∨ w.toNat % 8 = 5) (hr : ¬ RefusedWord s w) :
    issueDutiful (decodeWord w) s = false := by
  have hs := spells_decodeWord hr
  generalize decodeWord w = i at hs
  cases hs with
  | encode h => omega
  | encf h => omega
  | decf h => omega
  | call _ _ he => simp [issueDutiful, refusedAtIssue, writesReply, hl, he]
  | xfer _ _ hn ha => simp [issueDutiful, refusedAtIssue, writesReply, hl, hn, ha]

/-- A register of a file is one the last result shows, if the result shows the file that far. -/
theorem any_shown_iff {α : Type} {file : OpResult → Option (List α)} {i : Nat} :
    ((last.bind file).any fun xs => decide (i < xs.length)) = true ↔
      ∃ r xs, last = some r ∧ file r = some xs ∧ i < xs.length := by
  simp only [Option.any_eq_true, Option.bind_eq_some_iff, decide_eq_true_eq]
  exact ⟨fun ⟨xs, ⟨r, hr, hx⟩, hlt⟩ => ⟨r, xs, hr, hx, hlt⟩, fun ⟨r, xs, hr, hx, hlt⟩ => ⟨xs, ⟨r, hr, hx⟩, hlt⟩⟩

/-- A write to any register but CMD completes no operation. -/
theorem completes_load (hi : s.inputs = .write offset v :: rest) (ho : offset ≠ 0x000) (hs : step s = .next t) :
    completes s t = false := by
  have hissue : (Input.write offset v).issues = false := beq_eq_false_iff_ne.mpr ho
  simp only [completes, hi, hissue]
  cases hb : s.busy with
  | false => simp
  | true =>
    rw [step_input hi] at hs
    have hs : hostWrite offset v (s.setInputs rest) = .next t := hs
    by_cases hl : ListedOffset s.cfg offset
    · cases (hostWrite_busy (s := s.setInputs rest) hl hb).symm.trans hs
      simp [hb]
    · cases (hostWrite_unlisted (s := s.setInputs rest) hl).symm.trans hs

end Sys2Proof.Machine

namespace Sys2Proof.Claims

open Sys2Proof.Machine

variable {s t : State} {w : Word}

/-- A refused word shows no register (R147). -/
theorem resultOf_refused (hw : t.wf = true) (hst : t.status = .refused) :
    resultOf t = { ok := false, status := .refused, values := none, reply := none, frame := none } := by
  have hok := State.wf_ok hw
  rw [hst] at hok
  rw [resultOf, lastOperation_refused hst, hok, hst]; rfl

/-- Any other shows the registers its operation's row of R34 marks. -/
theorem resultOf_spelled (hw : t.wf = true) (hcfg : t.cfg = s.cfg) (hcmd : t.cmd = w) (hst : t.status ≠ .refused)
    (hr : ¬ RefusedWord s w) (hrlen : w.toNat % 8 = 4 ∨ w.toNat % 8 = 5 → t.rlen.toNat ≤ s.cfg.rxMax) :
    resultOf t =
      { ok := t.ok
        status := t.status
        values := if w.toNat % 8 = 3 ∨ w.toNat % 8 = 5 then some (firstBits (w.toNat / 2 ^ 24 % 16) t.val) else none
        reply := if w.toNat % 8 = 4 ∨ w.toNat % 8 = 5 then some (firstBits t.rlen.toNat t.rbuf) else none
        frame := if w.toNat % 8 = 3 then none else some (t.frm.take t.flen.toNat) } := by
  obtain ⟨-, hvlen, hrbuf, -⟩ := (State.wf_iff t).mp hw
  rw [hcfg] at hvlen hrbuf
  have hval (ha : (cmdFields w).ar.toNat ≤ s.cfg.maxValues.val) :
      readFirst (cmdFields w).ar.toNat t.val = firstBits (w.toNat / 2 ^ 24 % 16) t.val := by
    rw [readFirst_eq_take (by omega), cmdFields_ar_toNat]; rfl
  have hreply (hop : w.toNat % 8 = 4 ∨ w.toNat % 8 = 5) :
      readFirst t.rlen.toNat t.rbuf = firstBits t.rlen.toNat t.rbuf := by
    have := hrlen hop
    rw [readFirst_eq_take (by omega)]; rfl
  have hs := spells_decodeWord hr
  rw [resultOf, lastOperation_of hst, hcmd]
  generalize decodeWord w = i at hs
  cases hs with
  | encode hop => simp [hop, valuesWritten, writesReply, writesFrame, frameOperand]
  | encf hop => simp [hop, valuesWritten, writesReply, writesFrame, frameOperand]
  | decf hop _ ha => simp [hop, valuesWritten, writesReply, writesFrame, hval ha]
  | call hop => simp [hop, valuesWritten, writesReply, writesFrame, frameOperand, hreply (.inl hop)]
  | xfer hop _ _ ha =>
    simp [hop, valuesWritten, writesReply, writesFrame, frameOperand, hval ha, hreply (.inr hop)]

/-- Settles O59: the one word is refused, completes where it lands, or is exchanged; its result is read off its row. -/
theorem oneOperationIsOverAndShowsItsRow : Obligations.OneOperationIsOverAndShowsItsRow := by
  refine ⟨fun s hw => runOver_iff hw, fun s w hw hb hi => ⟨?_, ?_⟩⟩
  · refine Bool.eq_false_iff.mpr fun hover => ((runOver_iff hw).mp hover).2 w ?_
    rw [hi]; exact List.mem_singleton_self _
  obtain ⟨t, hrun, hover⟩ := runFrom_operation hw hb hi
  have hwt := runFrom_wf hw hrun
  refine ⟨t, hrun, hover.cmd, (runOver_iff hwt).mpr ⟨hover.busy, by simp [hover.inputs]⟩, hover.shown, fun hr => ?_,
    fun hr => ?_⟩
  · exact resultOf_refused hwt (hover.status.mpr hr)
  · exact resultOf_spelled hwt hover.cfg hover.cmd (fun h => hr (hover.status.mp h)) hr (hover.rlen hr)

/-- Settles O60: a duty stands against each breach that stops a step; what a duty asks of an issue and of a read is
read off the register. -/
theorem dutifulMovesAreNeverStopped : Obligations.DutifulMovesAreNeverStopped := by
  refine ⟨fun k last s hw hd => runFrom_of_dutifulRun hw hd, fun s last w rest hi hb hr => ?_,
    fun s last w rest hi hl hop hr => ?_, fun s last rest offset i hi hb => ⟨?_, ?_, ?_⟩,
    fun s t last offset v rest hi ho hs => ?_⟩
  · rw [dutiful_issue hi, hb, issueDutiful, (refuses_decodeWord hr).atIssue]; rfl
  · rw [dutiful_issue hi, issueDutiful_unlinked hl hop hr, Bool.and_false]
  · rintro rfl hlt h48
    have hmap : mappedValues s.cfg = min s.cfg.maxValues.val 48 := rfl
    rw [dutiful_read hi (regAt_val (by omega)) nofun, hb]
    exact any_shown_iff
  · rintro rfl hlt
    rw [dutiful_read hi (regAt_rbuf hlt) nofun, hb]
    exact any_shown_iff
  · rintro rfl hlt
    rw [dutiful_read hi (regAt_frm hlt) nofun, hb]
    exact any_shown_iff
  · exact resultAfter_other (completes_load hi ho hs) (by simp [hi])

end Sys2Proof.Claims
end
